-- ==== Sys2Proof/Word.lean ====
section
/-! DEFINITION. The two word types of the hardware (R6): bytes and 16-bit words.  Sums, differences and the bitwise
operations of `BitVec` are the modular arithmetic of R9. -/

namespace Sys2Proof

/-- An 8-bit value. -/
abbrev Byte := BitVec 8

/-- A 16-bit value: a register pair, an address or a port address. -/
abbrev Word := BitVec 16

end Sys2Proof
end

