-- ==== Sys2Proof/Machine/Bits.lean ====
section
/-! DEFINITION. Byte order, sign extension and the bit fields of an opcode byte (R8, R9, R101). -/

namespace Sys2Proof

/-- `hi ‖ lo`, the first byte in the high half (R9, R33). -/
def mkWord (hi lo : Byte) : Word := hi ++ lo

/-- Bits 15..8 of a word. -/
def hiByte (w : Word) : Byte := w.extractLsb' 8 8

/-- Bits 7..0 of a word. -/
def loByte (w : Word) : Byte := w.extractLsb' 0 8

/-- `sext_16` of a byte (R9): a displacement e or d read as a signed value (R111, R112). -/
def sext16 (v : Byte) : Word := v.signExtend 16

/-- `hi = op[7:6]` of an opcode byte (R101). -/
def fieldHi (op : Byte) : Fin 4 := (op.extractLsb' 6 2).toFin

/-- `r = op[5:3]`: also the fields c, b, o, t and the ALU code (R101, R107, R108, R123). -/
def fieldR (op : Byte) : Fin 8 := (op.extractLsb' 3 3).toFin

/-- `lo = op[2:0]`: also the fields s and reg (R101). -/
def fieldLo (op : Byte) : Fin 8 := (op.extractLsb' 0 3).toFin

/-- `p = op[5:4]` of the 16-bit forms (R101). -/
def fieldP (op : Byte) : Fin 4 := (op.extractLsb' 4 2).toFin

end Sys2Proof
end

