-- ==== Sys2Proof/Syntax.lean ====
section
/-! DEFINITION. The instruction syntax: the operand codes of 30_encoding.md (R102-R108) and `Instr`, one
constructor for each row of spec/opcode_table.json, in the table's order.  Operands are typed by what the row admits,
so that a value the row excludes (`r=6`, a JR condition above 3) cannot be written; the sets of second bytes of the
fallback rows are checked in WellFormed.lean. -/

namespace Sys2Proof

/-- The 8-bit register codes 0-5 and 7 (R102).  Code 6 is the memory operand and has forms of its own; F is never
selected by a register field (R32). -/
inductive Reg8
  | b | c | d | e | h | l | a
  deriving DecidableEq, Repr

/-- The 16-bit pair codes of `dd` and `ss` (R103). -/
inductive Pair
  | bc | de | hl | sp
  deriving DecidableEq, Repr

/-- The stack pair codes of `qq` in PUSH and POP (R104). -/
inductive StackPair
  | bc | de | hl | af
  deriving DecidableEq, Repr

/-- The pair codes of ADD XY,pp; code 2 is the index register itself (R105). -/
inductive IndexPair
  | bc | de | xy | sp
  deriving DecidableEq, Repr

/-- The eight condition codes, in code order (R106). -/
inductive Cond
  | nz | z | nc | c | po | pe | p | m
  deriving DecidableEq, Repr

/-- The four condition codes that JR c,e admits (R106). -/
inductive JrCond
  | nz | z | nc | c
  deriving DecidableEq, Repr

/-- The eight rotate and shift operations, in code order (R108). -/
inductive Rot
  | rlc | rrc | rl | rr | sla | sra | sll | srl
  deriving DecidableEq, Repr

/-- Which index register a prefix selects: IX after DD, IY after FD (R430). -/
inductive Index
  | ix | iy
  deriving DecidableEq, Repr

/-- The instructions.  Displacements `e` and `d` are kept as the encoded byte and read as signed where they are used
(R111, R112); `reg` of BIT b,(XY+d) is the encoded register field, which the instruction ignores (R465). -/
inductive Instr
  /-- `LD r,r'`, `01rrrsss` (R200). -/
  | ldRR (r : Reg8) (r' : Reg8)
  /-- `LD r,n`, `00rrr110 nnnnnnnn` (R201). -/
  | ldRN (r : Reg8) (n : Byte)
  /-- `LD r,(HL)`, `01rrr110` (R202). -/
  | ldRIndHl (r : Reg8)
  /-- `LD (HL),r`, `01110sss` (R203). -/
  | ldIndHlR (r' : Reg8)
  /-- `LD (HL),n`, `00110110 nnnnnnnn` (R204). -/
  | ldIndHlN (n : Byte)
  /-- `LD A,(BC)`, `00001010` (R205). -/
  | ldAIndBc
  /-- `LD A,(DE)`, `00011010` (R206). -/
  | ldAIndDe
  /-- `LD A,(nn)`, `00111010 nnnnnnnn NNNNNNNN` (R207). -/
  | ldAIndNn (nn : Word)
  /-- `LD (BC),A`, `00000010` (R208). -/
  | ldIndBcA
  /-- `LD (DE),A`, `00010010` (R209). -/
  | ldIndDeA
  /-- `LD (nn),A`, `00110010 nnnnnnnn NNNNNNNN` (R210). -/
  | ldIndNnA (nn : Word)
  /-- `LD dd,nn`, `00pp0001 nnnnnnnn NNNNNNNN` (R211). -/
  | ldDdNn (p : Pair) (nn : Word)
  /-- `LD HL,(nn)`, `00101010 nnnnnnnn NNNNNNNN` (R212). -/
  | ldHlIndNn (nn : Word)
  /-- `LD (nn),HL`, `00100010 nnnnnnnn NNNNNNNN` (R213). -/
  | ldIndNnHl (nn : Word)
  /-- `LD SP,HL`, `11111001` (R214). -/
  | ldSpHl
  /-- `PUSH qq`, `11qq0101` (R215). -/
  | pushQq (q : StackPair)
  /-- `POP qq`, `11qq0001` (R216). -/
  | popQq (q : StackPair)
  /-- `EX DE,HL`, `11101011` (R217). -/
  | exDeHl
  /-- `EX AF,AF'`, `00001000` (R218). -/
  | exAfAf
  /-- `EXX`, `11011001` (R219). -/
  | exx
  /-- `EX (SP),HL`, `11100011` (R220). -/
  | exIndSpHl
  /-- `ADD A,r`, `10000sss` (R250). -/
  | addAR (r : Reg8)
  /-- `ADD A,n`, `11000110 nnnnnnnn` (R251). -/
  | addAN (n : Byte)
  /-- `ADD A,(HL)`, `10000110` (R252). -/
  | addAIndHl
  /-- `ADC A,r`, `10001sss` (R253). -/
  | adcAR (r : Reg8)
  /-- `ADC A,n`, `11001110 nnnnnnnn` (R254). -/
  | adcAN (n : Byte)
  /-- `ADC A,(HL)`, `10001110` (R255). -/
  | adcAIndHl
  /-- `SUB r`, `10010sss` (R256). -/
  | subR (r : Reg8)
  /-- `SUB n`, `11010110 nnnnnnnn` (R257). -/
  | subN (n : Byte)
  /-- `SUB (HL)`, `10010110` (R258). -/
  | subIndHl
  /-- `SBC A,r`, `10011sss` (R259). -/
  | sbcAR (r : Reg8)
  /-- `SBC A,n`, `11011110 nnnnnnnn` (R260). -/
  | sbcAN (n : Byte)
  /-- `SBC A,(HL)`, `10011110` (R261). -/
  | sbcAIndHl
  /-- `AND r`, `10100sss` (R262). -/
  | andR (r : Reg8)
  /-- `AND n`, `11100110 nnnnnnnn` (R263). -/
  | andN (n : Byte)
  /-- `AND (HL)`, `10100110` (R264). -/
  | andIndHl
  /-- `XOR r`, `10101sss` (R265). -/
  | xorR (r : Reg8)
  /-- `XOR n`, `11101110 nnnnnnnn` (R266). -/
  | xorN (n : Byte)
  /-- `XOR (HL)`, `10101110` (R267). -/
  | xorIndHl
  /-- `OR r`, `10110sss` (R268). -/
  | orR (r : Reg8)
  /-- `OR n`, `11110110 nnnnnnnn` (R269). -/
  | orN (n : Byte)
  /-- `OR (HL)`, `10110110` (R270). -/
  | orIndHl
  /-- `CP r`, `10111sss` (R271). -/
  | cpR (r : Reg8)
  /-- `CP n`, `11111110 nnnnnnnn` (R272). -/
  | cpN (n : Byte)
  /-- `CP (HL)`, `10111110` (R273). -/
  | cpIndHl
  /-- `INC r`, `00rrr100` (R274). -/
  | incR (r : Reg8)
  /-- `INC (HL)`, `00110100` (R275). -/
  | incIndHl
  /-- `DEC r`, `00rrr101` (R276). -/
  | decR (r : Reg8)
  /-- `DEC (HL)`, `00110101` (R277). -/
  | decIndHl
  /-- `DAA`, `00100111` (R278). -/
  | daa
  /-- `CPL`, `00101111` (R279). -/
  | cpl
  /-- `SCF`, `00110111` (R280). -/
  | scf
  /-- `CCF`, `00111111` (R281). -/
  | ccf
  /-- `ADD HL,ss`, `00pp1001` (R282). -/
  | addHlSs (p : Pair)
  /-- `INC ss`, `00pp0011` (R283). -/
  | incSs (p : Pair)
  /-- `DEC ss`, `00pp1011` (R284). -/
  | decSs (p : Pair)
  /-- `RLCA`, `00000111` (R285). -/
  | rlca
  /-- `RLA`, `00010111` (R286). -/
  | rla
  /-- `RRCA`, `00001111` (R287). -/
  | rrca
  /-- `RRA`, `00011111` (R288). -/
  | rra
  /-- `JP nn`, `11000011 nnnnnnnn NNNNNNNN` (R300). -/
  | jpNn (nn : Word)
  /-- `JP c,nn`, `11ccc010 nnnnnnnn NNNNNNNN` (R301). -/
  | jpCNn (cc : Cond) (nn : Word)
  /-- `JR e`, `00011000 eeeeeeee` (R302). -/
  | jrE (e : Byte)
  /-- `JR c,e`, `001cc000 eeeeeeee` (R303). -/
  | jrCE (cc : JrCond) (e : Byte)
  /-- `JP (HL)`, `11101001` (R304). -/
  | jpIndHl
  /-- `DJNZ e`, `00010000 eeeeeeee` (R305). -/
  | djnzE (e : Byte)
  /-- `CALL nn`, `11001101 nnnnnnnn NNNNNNNN` (R306). -/
  | callNn (nn : Word)
  /-- `CALL c,nn`, `11ccc100 nnnnnnnn NNNNNNNN` (R307). -/
  | callCNn (cc : Cond) (nn : Word)
  /-- `RET`, `11001001` (R308). -/
  | ret
  /-- `RET c`, `11ccc000` (R309). -/
  | retC (cc : Cond)
  /-- `RST p`, `11ttt111` (R310). -/
  | rstP (t : Fin 8)
  /-- `NOP`, `00000000` (R311). -/
  | nop
  /-- `HALT`, `01110110` (R312). -/
  | halt
  /-- `DI`, `11110011` (R313). -/
  | di
  /-- `EI`, `11111011` (R314). -/
  | ei
  /-- `IN A,(n)`, `11011011 nnnnnnnn` (R315). -/
  | inAIndN (n : Byte)
  /-- `OUT (n),A`, `11010011 nnnnnnnn` (R316). -/
  | outIndNA (n : Byte)
  /-- `RLC r`, `11001011 00000sss` (R350). -/
  | rlcR (r : Reg8)
  /-- `RLC (HL)`, `11001011 00000110` (R351). -/
  | rlcIndHl
  /-- `RRC r`, `11001011 00001sss` (R352). -/
  | rrcR (r : Reg8)
  /-- `RRC (HL)`, `11001011 00001110` (R353). -/
  | rrcIndHl
  /-- `RL r`, `11001011 00010sss` (R354). -/
  | rlR (r : Reg8)
  /-- `RL (HL)`, `11001011 00010110` (R355). -/
  | rlIndHl
  /-- `RR r`, `11001011 00011sss` (R356). -/
  | rrR (r : Reg8)
  /-- `RR (HL)`, `11001011 00011110` (R357). -/
  | rrIndHl
  /-- `SLA r`, `11001011 00100sss` (R358). -/
  | slaR (r : Reg8)
  /-- `SLA (HL)`, `11001011 00100110` (R359). -/
  | slaIndHl
  /-- `SRA r`, `11001011 00101sss` (R360). -/
  | sraR (r : Reg8)
  /-- `SRA (HL)`, `11001011 00101110` (R361). -/
  | sraIndHl
  /-- `SLL r`, `11001011 00110sss` (R362). -/
  | sllR (r : Reg8)
  /-- `SLL (HL)`, `11001011 00110110` (R363). -/
  | sllIndHl
  /-- `SRL r`, `11001011 00111sss` (R364). -/
  | srlR (r : Reg8)
  /-- `SRL (HL)`, `11001011 00111110` (R365). -/
  | srlIndHl
  /-- `BIT b,r`, `11001011 01bbbsss` (R366). -/
  | bitBR (b : Fin 8) (r : Reg8)
  /-- `BIT b,(HL)`, `11001011 01bbb110` (R367). -/
  | bitBIndHl (b : Fin 8)
  /-- `SET b,r`, `11001011 11bbbsss` (R368). -/
  | setBR (b : Fin 8) (r : Reg8)
  /-- `SET b,(HL)`, `11001011 11bbb110` (R369). -/
  | setBIndHl (b : Fin 8)
  /-- `RES b,r`, `11001011 10bbbsss` (R370). -/
  | resBR (b : Fin 8) (r : Reg8)
  /-- `RES b,(HL)`, `11001011 10bbb110` (R371). -/
  | resBIndHl (b : Fin 8)
  /-- `IN r,(C)`, `11101101 01rrr000` (R380). -/
  | inRIndC (r : Reg8)
  /-- `OUT (C),r`, `11101101 01rrr001` (R381). -/
  | outIndCR (r : Reg8)
  /-- `SBC HL,ss`, `11101101 01pp0010` (R382). -/
  | sbcHlSs (p : Pair)
  /-- `ADC HL,ss`, `11101101 01pp1010` (R383). -/
  | adcHlSs (p : Pair)
  /-- `LD (nn),dd`, `11101101 01pp0011 nnnnnnnn NNNNNNNN` (R384). -/
  | ldIndNnDd (p : Pair) (nn : Word)
  /-- `LD dd,(nn)`, `11101101 01pp1011 nnnnnnnn NNNNNNNN` (R385). -/
  | ldDdIndNn (p : Pair) (nn : Word)
  /-- `NEG`, `11101101 01000100` (R386). -/
  | neg
  /-- `RETN`, `11101101 01000101` (R387). -/
  | retn
  /-- `RETI`, `11101101 01001101` (R388). -/
  | reti
  /-- `IM 0`, `11101101 01000110` (R389). -/
  | im0
  /-- `IM 1`, `11101101 01010110` (R390). -/
  | im1
  /-- `IM 2`, `11101101 01011110` (R391). -/
  | im2
  /-- `LD I,A`, `11101101 01000111` (R392). -/
  | ldIA
  /-- `LD R,A`, `11101101 01001111` (R393). -/
  | ldRA
  /-- `LD A,I`, `11101101 01010111` (R394). -/
  | ldAI
  /-- `LD A,R`, `11101101 01011111` (R395). -/
  | ldAR
  /-- `RRD`, `11101101 01100111` (R396). -/
  | rrd
  /-- `RLD`, `11101101 01101111` (R397). -/
  | rld
  /-- `LDI`, `11101101 10100000` (R398). -/
  | ldi
  /-- `LDIR`, `11101101 10110000` (R399). -/
  | ldir
  /-- `LDD`, `11101101 10101000` (R400). -/
  | ldd
  /-- `LDDR`, `11101101 10111000` (R401). -/
  | lddr
  /-- `CPI`, `11101101 10100001` (R402). -/
  | cpi
  /-- `CPIR`, `11101101 10110001` (R403). -/
  | cpir
  /-- `CPD`, `11101101 10101001` (R404). -/
  | cpd
  /-- `CPDR`, `11101101 10111001` (R405). -/
  | cpdr
  /-- `INI`, `11101101 10100010` (R406). -/
  | ini
  /-- `INIR`, `11101101 10110010` (R407). -/
  | inir
  /-- `IND`, `11101101 10101010` (R408). -/
  | ind
  /-- `INDR`, `11101101 10111010` (R409). -/
  | indr
  /-- `OUTI`, `11101101 10100011` (R410). -/
  | outi
  /-- `OTIR`, `11101101 10110011` (R411). -/
  | otir
  /-- `OUTD`, `11101101 10101011` (R412). -/
  | outd
  /-- `OTDR`, `11101101 10111011` (R413). -/
  | otdr
  /-- `<unrecognised ED xx>`, `11101101 xxxxxxxx` (R510). -/
  | unrecEd (op : Byte)
  /-- `LD IX,nn`, `11011101 00100001 nnnnnnnn NNNNNNNN` (R432). -/
  | ldIxNn (nn : Word)
  /-- `LD IX,(nn)`, `11011101 00101010 nnnnnnnn NNNNNNNN` (R433). -/
  | ldIxIndNn (nn : Word)
  /-- `LD (nn),IX`, `11011101 00100010 nnnnnnnn NNNNNNNN` (R434). -/
  | ldIndNnIx (nn : Word)
  /-- `LD SP,IX`, `11011101 11111001` (R435). -/
  | ldSpIx
  /-- `PUSH IX`, `11011101 11100101` (R436). -/
  | pushIx
  /-- `POP IX`, `11011101 11100001` (R437). -/
  | popIx
  /-- `EX (SP),IX`, `11011101 11100011` (R438). -/
  | exIndSpIx
  /-- `ADD IX,pp`, `11011101 00pp1001` (R439). -/
  | addIxPp (pp : IndexPair)
  /-- `INC IX`, `11011101 00100011` (R440). -/
  | incIx
  /-- `DEC IX`, `11011101 00101011` (R441). -/
  | decIx
  /-- `JP (IX)`, `11011101 11101001` (R442). -/
  | jpIndIx
  /-- `LD r,(IX+d)`, `11011101 01rrr110 dddddddd` (R443). -/
  | ldRIndIxD (r : Reg8) (d : Byte)
  /-- `LD (IX+d),r`, `11011101 01110sss dddddddd` (R444). -/
  | ldIndIxDR (d : Byte) (r' : Reg8)
  /-- `LD (IX+d),n`, `11011101 00110110 dddddddd nnnnnnnn` (R445). -/
  | ldIndIxDN (d : Byte) (n : Byte)
  /-- `ADD A,(IX+d)`, `11011101 10000110 dddddddd` (R446). -/
  | addAIndIxD (d : Byte)
  /-- `ADC A,(IX+d)`, `11011101 10001110 dddddddd` (R447). -/
  | adcAIndIxD (d : Byte)
  /-- `SUB (IX+d)`, `11011101 10010110 dddddddd` (R448). -/
  | subIndIxD (d : Byte)
  /-- `SBC A,(IX+d)`, `11011101 10011110 dddddddd` (R449). -/
  | sbcAIndIxD (d : Byte)
  /-- `AND (IX+d)`, `11011101 10100110 dddddddd` (R450). -/
  | andIndIxD (d : Byte)
  /-- `XOR (IX+d)`, `11011101 10101110 dddddddd` (R451). -/
  | xorIndIxD (d : Byte)
  /-- `OR (IX+d)`, `11011101 10110110 dddddddd` (R452). -/
  | orIndIxD (d : Byte)
  /-- `CP (IX+d)`, `11011101 10111110 dddddddd` (R453). -/
  | cpIndIxD (d : Byte)
  /-- `INC (IX+d)`, `11011101 00110100 dddddddd` (R454). -/
  | incIndIxD (d : Byte)
  /-- `DEC (IX+d)`, `11011101 00110101 dddddddd` (R455). -/
  | decIndIxD (d : Byte)
  /-- `RLC (IX+d)`, `11011101 11001011 dddddddd 00000110` (R456). -/
  | rlcIndIxD (d : Byte)
  /-- `RRC (IX+d)`, `11011101 11001011 dddddddd 00001110` (R457). -/
  | rrcIndIxD (d : Byte)
  /-- `RL (IX+d)`, `11011101 11001011 dddddddd 00010110` (R458). -/
  | rlIndIxD (d : Byte)
  /-- `RR (IX+d)`, `11011101 11001011 dddddddd 00011110` (R459). -/
  | rrIndIxD (d : Byte)
  /-- `SLA (IX+d)`, `11011101 11001011 dddddddd 00100110` (R460). -/
  | slaIndIxD (d : Byte)
  /-- `SRA (IX+d)`, `11011101 11001011 dddddddd 00101110` (R461). -/
  | sraIndIxD (d : Byte)
  /-- `SLL (IX+d)`, `11011101 11001011 dddddddd 00110110` (R462). -/
  | sllIndIxD (d : Byte)
  /-- `SRL (IX+d)`, `11011101 11001011 dddddddd 00111110` (R463). -/
  | srlIndIxD (d : Byte)
  /-- `<rot> (IX+d) -> r`, `11011101 11001011 dddddddd 00ooosss` (R464). -/
  | rotIndIxDR (o : Rot) (d : Byte) (r : Reg8)
  /-- `BIT b,(IX+d)`, `11011101 11001011 dddddddd 01bbbsss` (R465). -/
  | bitBIndIxD (b : Fin 8) (d : Byte) (reg : BitVec 3)
  /-- `RES b,(IX+d)`, `11011101 11001011 dddddddd 10bbb110` (R466). -/
  | resBIndIxD (b : Fin 8) (d : Byte)
  /-- `SET b,(IX+d)`, `11011101 11001011 dddddddd 11bbb110` (R467). -/
  | setBIndIxD (b : Fin 8) (d : Byte)
  /-- `RES b,(IX+d) -> r`, `11011101 11001011 dddddddd 10bbbsss` (R468). -/
  | resBIndIxDR (b : Fin 8) (d : Byte) (r : Reg8)
  /-- `SET b,(IX+d) -> r`, `11011101 11001011 dddddddd 11bbbsss` (R469). -/
  | setBIndIxDR (b : Fin 8) (d : Byte) (r : Reg8)
  /-- `<DD + other root byte>`, `11011101 xxxxxxxx` (R470). -/
  | ddOther (op : Byte)
  /-- `<unrecognised DD xx>`, `11011101 xxxxxxxx` (R471). -/
  | unrecDd (op : Byte)
  /-- `LD IY,nn`, `11111101 00100001 nnnnnnnn NNNNNNNN` (R432). -/
  | ldIyNn (nn : Word)
  /-- `LD IY,(nn)`, `11111101 00101010 nnnnnnnn NNNNNNNN` (R433). -/
  | ldIyIndNn (nn : Word)
  /-- `LD (nn),IY`, `11111101 00100010 nnnnnnnn NNNNNNNN` (R434). -/
  | ldIndNnIy (nn : Word)
  /-- `LD SP,IY`, `11111101 11111001` (R435). -/
  | ldSpIy
  /-- `PUSH IY`, `11111101 11100101` (R436). -/
  | pushIy
  /-- `POP IY`, `11111101 11100001` (R437). -/
  | popIy
  /-- `EX (SP),IY`, `11111101 11100011` (R438). -/
  | exIndSpIy
  /-- `ADD IY,pp`, `11111101 00pp1001` (R439). -/
  | addIyPp (pp : IndexPair)
  /-- `INC IY`, `11111101 00100011` (R440). -/
  | incIy
  /-- `DEC IY`, `11111101 00101011` (R441). -/
  | decIy
  /-- `JP (IY)`, `11111101 11101001` (R442). -/
  | jpIndIy
  /-- `LD r,(IY+d)`, `11111101 01rrr110 dddddddd` (R443). -/
  | ldRIndIyD (r : Reg8) (d : Byte)
  /-- `LD (IY+d),r`, `11111101 01110sss dddddddd` (R444). -/
  | ldIndIyDR (d : Byte) (r' : Reg8)
  /-- `LD (IY+d),n`, `11111101 00110110 dddddddd nnnnnnnn` (R445). -/
  | ldIndIyDN (d : Byte) (n : Byte)
  /-- `ADD A,(IY+d)`, `11111101 10000110 dddddddd` (R446). -/
  | addAIndIyD (d : Byte)
  /-- `ADC A,(IY+d)`, `11111101 10001110 dddddddd` (R447). -/
  | adcAIndIyD (d : Byte)
  /-- `SUB (IY+d)`, `11111101 10010110 dddddddd` (R448). -/
  | subIndIyD (d : Byte)
  /-- `SBC A,(IY+d)`, `11111101 10011110 dddddddd` (R449). -/
  | sbcAIndIyD (d : Byte)
  /-- `AND (IY+d)`, `11111101 10100110 dddddddd` (R450). -/
  | andIndIyD (d : Byte)
  /-- `XOR (IY+d)`, `11111101 10101110 dddddddd` (R451). -/
  | xorIndIyD (d : Byte)
  /-- `OR (IY+d)`, `11111101 10110110 dddddddd` (R452). -/
  | orIndIyD (d : Byte)
  /-- `CP (IY+d)`, `11111101 10111110 dddddddd` (R453). -/
  | cpIndIyD (d : Byte)
  /-- `INC (IY+d)`, `11111101 00110100 dddddddd` (R454). -/
  | incIndIyD (d : Byte)
  /-- `DEC (IY+d)`, `11111101 00110101 dddddddd` (R455). -/
  | decIndIyD (d : Byte)
  /-- `RLC (IY+d)`, `11111101 11001011 dddddddd 00000110` (R456). -/
  | rlcIndIyD (d : Byte)
  /-- `RRC (IY+d)`, `11111101 11001011 dddddddd 00001110` (R457). -/
  | rrcIndIyD (d : Byte)
  /-- `RL (IY+d)`, `11111101 11001011 dddddddd 00010110` (R458). -/
  | rlIndIyD (d : Byte)
  /-- `RR (IY+d)`, `11111101 11001011 dddddddd 00011110` (R459). -/
  | rrIndIyD (d : Byte)
  /-- `SLA (IY+d)`, `11111101 11001011 dddddddd 00100110` (R460). -/
  | slaIndIyD (d : Byte)
  /-- `SRA (IY+d)`, `11111101 11001011 dddddddd 00101110` (R461). -/
  | sraIndIyD (d : Byte)
  /-- `SLL (IY+d)`, `11111101 11001011 dddddddd 00110110` (R462). -/
  | sllIndIyD (d : Byte)
  /-- `SRL (IY+d)`, `11111101 11001011 dddddddd 00111110` (R463). -/
  | srlIndIyD (d : Byte)
  /-- `<rot> (IY+d) -> r`, `11111101 11001011 dddddddd 00ooosss` (R464). -/
  | rotIndIyDR (o : Rot) (d : Byte) (r : Reg8)
  /-- `BIT b,(IY+d)`, `11111101 11001011 dddddddd 01bbbsss` (R465). -/
  | bitBIndIyD (b : Fin 8) (d : Byte) (reg : BitVec 3)
  /-- `RES b,(IY+d)`, `11111101 11001011 dddddddd 10bbb110` (R466). -/
  | resBIndIyD (b : Fin 8) (d : Byte)
  /-- `SET b,(IY+d)`, `11111101 11001011 dddddddd 11bbb110` (R467). -/
  | setBIndIyD (b : Fin 8) (d : Byte)
  /-- `RES b,(IY+d) -> r`, `11111101 11001011 dddddddd 10bbbsss` (R468). -/
  | resBIndIyDR (b : Fin 8) (d : Byte) (r : Reg8)
  /-- `SET b,(IY+d) -> r`, `11111101 11001011 dddddddd 11bbbsss` (R469). -/
  | setBIndIyDR (b : Fin 8) (d : Byte) (r : Reg8)
  /-- `<FD + other root byte>`, `11111101 xxxxxxxx` (R470). -/
  | fdOther (op : Byte)
  /-- `<unrecognised FD xx>`, `11111101 xxxxxxxx` (R471). -/
  | unrecFd (op : Byte)
  deriving DecidableEq, Repr

end Sys2Proof
end

