-- ==== Sys2Proof/Machine/Flags.lean ====
section
/-! DEFINITION. The ALU and flag engine (40_alu_flags.md R150-R168) as pure functions from the flag byte and the operands to
the result and the new flag byte.  Sums and differences are computed exactly and narrowed at the end. -/

namespace Sys2Proof.Machine

/-! ## The flag byte (R46): S Z x H x P/V N C -/

/-- `F.S`. -/
def flagS (f : Byte) : Bool := f.getLsbD 7

/-- `F.Z`. -/
def flagZ (f : Byte) : Bool := f.getLsbD 6

/-- `F.H`. -/
def flagH (f : Byte) : Bool := f.getLsbD 4

/-- `F.PV`. -/
def flagPV (f : Byte) : Bool := f.getLsbD 2

/-- `F.N`. -/
def flagN (f : Byte) : Bool := f.getLsbD 1

/-- `F.C`. -/
def flagC (f : Byte) : Bool := f.getLsbD 0

/-- The masks of R150. -/
def maskS : Byte := 0x80
def maskZ : Byte := 0x40
def maskPV : Byte := 0x04
def maskN : Byte := 0x02
def maskC : Byte := 0x01

/-- Bits 5 and 3, which every flag-writing rule keeps (R53). -/
def maskXY : Byte := 0x28

/-- `v` when the condition holds, else 0. -/
def bitIf (cond : Bool) (v : Byte) : Byte := if cond then v else 0

/-- The flag byte with the six documented flags given and bits 5 and 3 clear (R46): the `new` of R150. -/
def newFlags (s z h pv n c : Bool) : Byte :=
  bitIf s 0x80 ||| bitIf z 0x40 ||| bitIf h 0x10 ||| bitIf pv 0x04 ||| bitIf n 0x02 ||| bitIf c 0x01

/-- `F' = (F & keep) | new` (R150). -/
def mergeFlags (f keep new : Byte) : Byte := (f &&& keep) ||| new

/-- `Parity(v)`: an even number of 1 bits among the 8 (R151). -/
def parity (v : Byte) : Bool := [0, 1, 2, 3, 4, 5, 6, 7].countP (fun k => v.getLsbD k) % 2 == 0

/-! ## 8-bit arithmetic -/

/-- `Add8` (R152). -/
def add8 (f a b : Byte) (cin : Bool) : Byte × Byte :=
  let t := a.toNat + b.toNat + cin.toNat
  let r := BitVec.ofNat 8 t
  (r, mergeFlags f maskXY (newFlags
    (r.getLsbD 7)
    (r == 0)
    (decide (a.toNat % 16 + b.toNat % 16 + cin.toNat > 15))
    (a.getLsbD 7 == b.getLsbD 7 && r.getLsbD 7 != a.getLsbD 7)
    false
    (decide (t > 255))))

/-- `Sub8` (R153). -/
def sub8 (f a b : Byte) (cin : Bool) : Byte × Byte :=
  let r := BitVec.ofInt 8 ((a.toNat : Int) - b.toNat - cin.toNat)
  (r, mergeFlags f maskXY (newFlags
    (r.getLsbD 7)
    (r == 0)
    (decide (a.toNat % 16 < b.toNat % 16 + cin.toNat))
    (a.getLsbD 7 != b.getLsbD 7 && r.getLsbD 7 != a.getLsbD 7)
    true
    (decide (a.toNat < b.toNat + cin.toNat))))

/-- The flags of a logical operation: S, Z and parity of the result, N = C = 0 (R154-R156). -/
def logicFlags (f r : Byte) (h : Bool) : Byte :=
  mergeFlags f maskXY (newFlags (r.getLsbD 7) (r == 0) h (parity r) false false)

/-- `And8` (R154). -/
def and8 (f a b : Byte) : Byte × Byte := (a &&& b, logicFlags f (a &&& b) true)

/-- `Or8` (R155). -/
def or8 (f a b : Byte) : Byte × Byte := (a ||| b, logicFlags f (a ||| b) false)

/-- `Xor8` (R156). -/
def xor8 (f a b : Byte) : Byte × Byte := (a ^^^ b, logicFlags f (a ^^^ b) false)

/-- `Inc8` (R157). -/
def inc8 (f v : Byte) : Byte × Byte :=
  let r := v + 1
  (r, mergeFlags f (maskXY ||| maskC)
    (newFlags (r.getLsbD 7) (r == 0) (v &&& 0x0F == 0x0F) (v == 0x7F) false false))

/-- `Dec8` (R158). -/
def dec8 (f v : Byte) : Byte × Byte :=
  let r := v - 1
  (r, mergeFlags f (maskXY ||| maskC)
    (newFlags (r.getLsbD 7) (r == 0) (v &&& 0x0F == 0x00) (v == 0x80) true false))

/-- `Neg` (R167). -/
def neg8 (f a : Byte) : Byte × Byte := sub8 f 0 a false

/-! ## 16-bit arithmetic -/

/-- `Add16` (R159). -/
def add16 (f : Byte) (a b : Word) : Word × Byte :=
  let t := a.toNat + b.toNat
  (BitVec.ofNat 16 t, mergeFlags f (maskXY ||| maskS ||| maskZ ||| maskPV) (newFlags false false
    (decide (a.toNat % 4096 + b.toNat % 4096 > 4095))
    false
    false
    (decide (t > 65535))))

/-- `Adc16` (R160). -/
def adc16 (f : Byte) (a b : Word) (cin : Bool) : Word × Byte :=
  let t := a.toNat + b.toNat + cin.toNat
  let r := BitVec.ofNat 16 t
  (r, mergeFlags f maskXY (newFlags
    (r.getLsbD 15)
    (r == 0)
    (decide (a.toNat % 4096 + b.toNat % 4096 + cin.toNat > 4095))
    (a.getLsbD 15 == b.getLsbD 15 && r.getLsbD 15 != a.getLsbD 15)
    false
    (decide (t > 65535))))

/-- `Sbc16` (R161). -/
def sbc16 (f : Byte) (a b : Word) (cin : Bool) : Word × Byte :=
  let r := BitVec.ofInt 16 ((a.toNat : Int) - b.toNat - cin.toNat)
  (r, mergeFlags f maskXY (newFlags
    (r.getLsbD 15)
    (r == 0)
    (decide (a.toNat % 4096 < b.toNat % 4096 + cin.toNat))
    (a.getLsbD 15 != b.getLsbD 15 && r.getLsbD 15 != a.getLsbD 15)
    true
    (decide (a.toNat < b.toNat + cin.toNat))))

/-! ## Rotates, shifts and bit tests -/

/-- `v[6:0] ‖ c`: the bits moved left, `c` into bit 0. -/
def shiftLeftIn (v : Byte) (c : Bool) : Byte := v <<< 1 ||| bitIf c 0x01

/-- `c ‖ v[7:1]`: the bits moved right, `c` into bit 7. -/
def shiftRightIn (v : Byte) (c : Bool) : Byte := v >>> 1 ||| bitIf c 0x80

/-- The bit movement of a shift operation and the bit moved out (the table of R163). -/
def rotate (o : Rot) (v : Byte) (c : Bool) : Byte × Bool :=
  match o with
  | .rlc => (shiftLeftIn v (v.getLsbD 7), v.getLsbD 7)
  | .rrc => (shiftRightIn v (v.getLsbD 0), v.getLsbD 0)
  | .rl => (shiftLeftIn v c, v.getLsbD 7)
  | .rr => (shiftRightIn v c, v.getLsbD 0)
  | .sla => (shiftLeftIn v false, v.getLsbD 7)
  | .sra => (shiftRightIn v (v.getLsbD 7), v.getLsbD 0)
  | .sll => (shiftLeftIn v true, v.getLsbD 7)
  | .srl => (shiftRightIn v false, v.getLsbD 0)

/-- `Shift(op, v, F.C)` (R163). -/
def shift8 (o : Rot) (f v : Byte) : Byte × Byte :=
  let (r, out) := rotate o v (flagC f)
  (r, mergeFlags f maskXY (newFlags (r.getLsbD 7) (r == 0) false (parity r) false out))

/-- The flags of an accumulator rotate: H = N = 0 and C the bit rotated out (R162). -/
def accRotateFlags (f : Byte) (out : Bool) : Byte :=
  mergeFlags f (maskXY ||| maskS ||| maskZ ||| maskPV) (newFlags false false false false false out)

/-- `Rlca` (R162). -/
def rlca8 (f a : Byte) : Byte × Byte := (shiftLeftIn a (a.getLsbD 7), accRotateFlags f (a.getLsbD 7))

/-- `Rla` (R162). -/
def rla8 (f a : Byte) : Byte × Byte := (shiftLeftIn a (flagC f), accRotateFlags f (a.getLsbD 7))

/-- `Rrca` (R162). -/
def rrca8 (f a : Byte) : Byte × Byte := (shiftRightIn a (a.getLsbD 0), accRotateFlags f (a.getLsbD 0))

/-- `Rra` (R162). -/
def rra8 (f a : Byte) : Byte × Byte := (shiftRightIn a (flagC f), accRotateFlags f (a.getLsbD 0))

/-- `Bit(b, v)` (R164); S and P/V are the two free bits given. -/
def bitTest (f v : Byte) (b : Fin 8) (freeS freePV : Bool) : Byte :=
  mergeFlags f (maskXY ||| maskC) (newFlags freeS (!v.getLsbD b.val) true freePV false false)

/-- `v | (1 << b)` (R368). -/
def setBit (v : Byte) (b : Fin 8) : Byte := v ||| (1 : Byte) <<< b.val

/-- `v & ~(1 << b)`, the mask 8 bits wide (R370). -/
def resBit (v : Byte) (b : Fin 8) : Byte := v &&& ~~~((1 : Byte) <<< b.val)

/-! ## Decimal adjust, conditions, and the flags that instructions of 42 and 45 give themselves -/

/-- The correction of `Daa` (R165). -/
def daaCorrection (f a : Byte) : Byte :=
  bitIf (flagH f || decide ((a &&& 0x0F).toNat > 9)) 0x06 ||| bitIf (flagC f || decide (a.toNat > 0x99)) 0x60

/-- `Daa` (R165). -/
def daa8 (f a : Byte) : Byte × Byte :=
  let corr := daaCorrection f a
  let r := if flagN f then a - corr else a + corr
  let h := if flagN f then flagH f && decide ((a &&& 0x0F).toNat < 6) else decide ((a &&& 0x0F).toNat > 9)
  (r, mergeFlags f (maskXY ||| maskN)
    (newFlags (r.getLsbD 7) (r == 0) h (parity r) false (flagC f || decide (a.toNat > 0x99))))

/-- `Cond(c, F)` (R166). -/
def condHolds (cc : Cond) (f : Byte) : Bool :=
  match cc with
  | .nz => !flagZ f
  | .z => flagZ f
  | .nc => !flagC f
  | .c => flagC f
  | .po => !flagPV f
  | .pe => flagPV f
  | .p => !flagS f
  | .m => flagS f

/-- The condition a JR code names: codes 0-3 of R106. -/
def jrCond : JrCond → Cond
  | .nz => .nz
  | .z => .z
  | .nc => .nc
  | .c => .c

/-- The flags of CPL: H = N = 1 (R279). -/
def cplFlags (f : Byte) : Byte :=
  mergeFlags f (maskXY ||| maskS ||| maskZ ||| maskPV ||| maskC) (newFlags false false true false true false)

/-- The flags of SCF: C = 1, H = N = 0 (R280). -/
def scfFlags (f : Byte) : Byte :=
  mergeFlags f (maskXY ||| maskS ||| maskZ ||| maskPV) (newFlags false false false false false true)

/-- The flags of CCF: C inverted, H the old C, N = 0 (R281). -/
def ccfFlags (f : Byte) : Byte :=
  mergeFlags f (maskXY ||| maskS ||| maskZ ||| maskPV) (newFlags false false (flagC f) false false (!flagC f))

/-- The flags of a byte read: S and Z of it, H = N = 0, P/V as given, C unchanged (R380, R394-R397). -/
def byteFlags (f v : Byte) (pv : Bool) : Byte :=
  mergeFlags f (maskXY ||| maskC) (newFlags (v.getLsbD 7) (v == 0) false pv false false)

/-- The flags of a block transfer: H = N = 0, P/V as given, S, Z and C unchanged (R398). -/
def blockLoadFlags (f : Byte) (pv : Bool) : Byte :=
  mergeFlags f (maskXY ||| maskS ||| maskZ ||| maskC) (newFlags false false false pv false false)

/-- The flags of a block compare of `a` with `v`: S, Z and H of `a - v`, P/V as given, N = 1, C unchanged (R402). -/
def blockCompareFlags (f a v : Byte) (pv : Bool) : Byte :=
  mergeFlags f (maskXY ||| maskC) (newFlags
    ((a - v).getLsbD 7)
    (a - v == 0)
    (decide (a.toNat % 16 < v.toNat % 16))
    pv
    true
    false)

/-- The flags of block I/O: Z and P/V as given, N = 1, C unchanged, S and H the two free bits given (R416). -/
def blockIoFlags (f : Byte) (z pv freeS freeH : Bool) : Byte :=
  mergeFlags f (maskXY ||| maskC) (newFlags freeS z freeH pv true false)

end Sys2Proof.Machine
end

