-- ==== Sys2Proof/Config.lean ====
section
/-! DEFINITION. What an implementation fixes (the named parameters of 00_scope.md R7) and the free values the spec leaves
open.  A free value is a constant without a body: nothing can be proved of what it is. -/

namespace Sys2Proof

/-- `P_DDFD_OTHER` (R470): what a DD or FD prefix does before a second byte of OTHER_SET. -/
inductive DdfdOther
  /-- The step ends by the unrecognised outcome. -/
  | unrecognised
  /-- The root rule of the second byte executes as if the prefix were absent. -/
  | root
  deriving DecidableEq, Repr, Inhabited

/-- `P_BLOCKIO_REPEAT` (R415): the repeat test of INIR, INDR, OTIR and OTDR. -/
inductive BlockioRepeat
  /-- Repeat while B is not 0. -/
  | bNonzero
  /-- Repeat while BC is not 0. -/
  | bcNonzero
  deriving DecidableEq, Repr, Inhabited

/-- A path of an instruction row, the key of a cost in `P_TSTATES` (R558): the rule's number, and whether it is the
row's second path (not taken, or the last iteration). -/
structure CostKey where
  rule : Nat
  second : Bool
  deriving DecidableEq, Repr

/-- The parameters of one machine (R7).  A step reads them and never changes them. -/
structure Config where
  /-- `P_ROM_BOUNDARY`: writes below this address are ignored (R72). -/
  romBoundary : Nat
  /-- `P_DDFD_OTHER` (R470). -/
  ddfdOther : DdfdOther
  /-- `P_BLOCKIO_REPEAT` (R415). -/
  blockioRepeat : BlockioRepeat
  /-- `P_EI_DELAY` (R513). -/
  eiDelay : Bool
  /-- `P_TSTATES` (R558), as the paths whose cost differs from the table's default; log entry 5. -/
  tstates : List (CostKey × Nat)
  deriving DecidableEq, Repr

/-- The OPEN parameter `P_DDFD_OTHER` of the machine at reset: the spec gives no default; log entry 3. -/
opaque Config.openDdfdOther : DdfdOther

/-- The OPEN parameter `P_BLOCKIO_REPEAT` of the machine at reset: the spec gives no default; log entry 4. -/
opaque Config.openBlockioRepeat : BlockioRepeat

/-- The parameters at reset: the spec's defaults (R7), and for the two OPEN parameters a constant of which nothing is
known. -/
def Config.initial : Config where
  romBoundary := 0
  ddfdOther := Config.openDdfdOther
  blockioRepeat := Config.openBlockioRepeat
  eiDelay := false
  tstates := []

/-- A flag bit the spec leaves `any`: S and P/V of BIT (R164), S and H of block I/O (R416), by the count of draws before
it; log entry 8. -/
opaque Config.freeFlag : Nat → Bool

/-- The level of nmi sampled once the scheduled samples are used up (R501), by the count of draws before it; log entry 6. -/
opaque Config.freeNmi : Nat → Bool

/-- The level of mi sampled there (R501); log entry 6. -/
opaque Config.freeMi : Nat → Bool

/-- The data byte of an acknowledge sampled there (R501); log entry 6. -/
opaque Config.freeData : Nat → Byte

/-- The byte the port device answers (R79) once the scheduled answers are used up, by the count of draws before it; log
entry 7. -/
opaque Config.freePortByte : Nat → Byte

end Sys2Proof
end

