-- ==== Sys2Proof/Machine/State.lean ====
section
/-! DEFINITION. The state of the machine as plain data: everything 10_state.md R30 and R57 give the core, the memory and
the port accesses the core reaches (R70), and the model's own fields (INVENTORY.md, "State").  Then the reasons a step
can stop, and the machine right after reset (R550). -/

namespace Sys2Proof.Machine

/-- The maskable-interrupt mode: one of 0, 1, 2 and no other value (R44). -/
inductive IntMode
  | im0 | im1 | im2
  deriving DecidableEq, Repr

/-- The three inputs of one step (R501): the levels of nmi and mi, and the data byte of an acknowledge. -/
structure Lines where
  nmi : Bool
  mi : Bool
  data : Byte
  deriving DecidableEq, Repr

/-- A port access, as the port device sees it (R79, R80). -/
inductive PortEvent
  /-- A read of `port`, answered by `v`. -/
  | read (port : Word) (v : Byte)
  /-- A write of `v` to `port`: an output event. -/
  | write (port : Word) (v : Byte)
  deriving DecidableEq, Repr

/-- The state.  The first 27 fields are the core's own (R30, R57); then the memory and the port accesses (R70, R80); then
the parameters (R7), the inputs still to come (R79, R501) and the count of free values drawn. -/
@[ext]
structure State where
  a : Byte
  f : Byte
  b : Byte
  c : Byte
  d : Byte
  e : Byte
  h : Byte
  l : Byte
  /-- A' (R35); so for the seven below. -/
  a' : Byte
  f' : Byte
  b' : Byte
  c' : Byte
  d' : Byte
  e' : Byte
  h' : Byte
  l' : Byte
  /-- I, the interrupt vector register (R39). -/
  i : Byte
  /-- R, the refresh register (R40). -/
  r : Byte
  ix : Word
  iy : Word
  sp : Word
  pc : Word
  iff1 : Bool
  iff2 : Bool
  /-- interrupt_mode (R44). -/
  im : IntMode
  /-- The HALT latch (R45). -/
  halted : Bool
  /-- The latch of the optional EI delay (R57, R513). -/
  eiPending : Bool
  /-- The 64 KiB memory (R70, R71), in the canonical form of `Memory.wf`. -/
  mem : List Host.Cell
  /-- The port accesses made, oldest first (R80). -/
  portLog : List PortEvent
  /-- The parameters of the machine (R7). -/
  cfg : Config
  /-- The samples of nmi, mi and data scheduled for the coming steps, next one first; free values follow them (R501). -/
  lines : List Lines
  /-- The bytes the port device answers to the coming port reads, next one first (R79). -/
  portIn : List Byte
  /-- How many free values have been drawn. -/
  draws : Nat
  deriving DecidableEq, Repr

/-- The faults: none.  The core has no synchronous exception, no alignment or protection fault and no privilege violation
(R82, R86, R511, R516), and its adapters are total functions (R84, R522); an undecodable sequence halts the core and the
machine goes on (R510).  Nothing raises a fault, so nothing here is unsafe. -/
inductive Fault
  deriving DecidableEq, Repr

/-- The refusals. -/
inductive Refusal
  /-- An instruction without a meaning.  Raised by an arm of `exec` that rejects its instruction by name; no arm does.
  Safe. -/
  | notModelled (mnemonic : String)
  deriving DecidableEq, Repr

/-- What a meaning answers. -/
abbrev Out := Host.Outcome State Fault Refusal

/-- The machine right after reset (R550).  Memory and the model's own lists hold nothing (log entries 1, 6, 7, 8), and the
parameters are `Config.initial` (log entry 2). -/
def State.reset : State where
  a := 0xFF
  f := 0xFF
  b := 0x00
  c := 0x00
  d := 0x00
  e := 0x00
  h := 0x00
  l := 0x00
  a' := 0x00
  f' := 0x00
  b' := 0x00
  c' := 0x00
  d' := 0x00
  e' := 0x00
  h' := 0x00
  l' := 0x00
  i := 0x00
  r := 0x00
  ix := 0x0000
  iy := 0x0000
  sp := 0xFFFF
  pc := 0x0000
  iff1 := false
  iff2 := false
  im := .im0
  halted := false
  eiPending := false
  mem := []
  portLog := []
  cfg := .initial
  lines := []
  portIn := []
  draws := 0

end Sys2Proof.Machine
end

