-- ==== Sys2Proof/Machine/Memory.lean ====
section
/-! DEFINITION. Memory as data (20_memory.md R71): a list of (address, byte) in one canonical form, so that equal memories
are equal lists.  The machine's reads and writes over it are in Ops.lean. -/

namespace Sys2Proof.Machine

/-- What an address that is not listed reads as: the initial image byte of R71, which the spec leaves to the host.
DESIGN CHOICE, log entry 1. -/
def Memory.unlisted : Byte := 0x00

/-- The number of memory bytes (R70). -/
def Memory.size : Nat := 65536

/-- The byte at an address (R71). -/
def Memory.get : List Host.Cell → Nat → Byte
  | [], _ => unlisted
  | (k, v) :: rest, a => if a = k then v else if a < k then unlisted else get rest a

/-- A cell in front of a list, left out when it says no more than an unlisted address does. -/
def Memory.cons (a : Nat) (v : Byte) (m : List Host.Cell) : List Host.Cell :=
  if v = unlisted then m else (a, v) :: m

/-- The memory after a byte is stored at an address (R72); it keeps the canonical form. -/
def Memory.set : List Host.Cell → Nat → Byte → List Host.Cell
  | [], a, v => cons a v []
  | (k, w) :: rest, a, v =>
    if a = k then cons a v rest
    else if a < k then cons a v ((k, w) :: rest)
    else (k, w) :: set rest a v

/-- Addresses strictly rising from `lo` on and below the size, and no cell that says what an unlisted address does. -/
def Memory.wfFrom : Nat → List Host.Cell → Bool
  | _, [] => true
  | lo, (k, v) :: rest => decide (lo ≤ k) && decide (k < size) && !(v == unlisted) && wfFrom (k + 1) rest

/-- The canonical form of a memory. -/
def Memory.wf (m : List Host.Cell) : Bool := wfFrom 0 m

/-- The memory after the host stores bytes from an address on, wrapping at the end (R87, R554): a load of an image.  The
ROM boundary is a rule of the core's own writes and does not matter to it (R72, R552). -/
def Memory.load : List Host.Cell → Word → List Byte → List Host.Cell
  | m, _, [] => m
  | m, a, v :: rest => load (set m a.toNat v) (a + 1) rest

end Sys2Proof.Machine
end

