-- ==== Sys2Proof/Machine/Operands.lean ====
section
/-! DEFINITION. The operand forms: registers and 16-bit views (R32-R36), the pair codes (R103-R105), and the addresses of
memory operands (R111, R431). -/

namespace Sys2Proof.Machine

/-! ## 16-bit views -/

/-- BC = B ‖ C (R33). -/
def State.bc (s : State) : Word := mkWord s.b s.c

/-- DE = D ‖ E (R33). -/
def State.de (s : State) : Word := mkWord s.d s.e

/-- HL = H ‖ L (R33). -/
def State.hl (s : State) : Word := mkWord s.h s.l

/-- AF = A ‖ F (R34). -/
def State.af (s : State) : Word := mkWord s.a s.f

/-- Writing BC writes B and C (R33). -/
def State.setBc (s : State) (v : Word) : State := { s with b := hiByte v, c := loByte v }

/-- Writing DE writes D and E (R33). -/
def State.setDe (s : State) (v : Word) : State := { s with d := hiByte v, e := loByte v }

/-- Writing HL writes H and L (R33). -/
def State.setHl (s : State) (v : Word) : State := { s with h := hiByte v, l := loByte v }

/-- Writing AF writes A and the whole of F (R34, R216). -/
def State.setAf (s : State) (v : Word) : State := { s with a := hiByte v, f := loByte v }

/-! ## Register codes -/

/-- `x[r]` as a source (R32). -/
def State.reg (s : State) : Reg8 → Byte
  | .b => s.b
  | .c => s.c
  | .d => s.d
  | .e => s.e
  | .h => s.h
  | .l => s.l
  | .a => s.a

/-- `x[r]` as a destination (R32). -/
def State.setReg (s : State) (r : Reg8) (v : Byte) : State :=
  match r with
  | .b => { s with b := v }
  | .c => { s with c := v }
  | .d => { s with d := v }
  | .e => { s with e := v }
  | .h => { s with h := v }
  | .l => { s with l := v }
  | .a => { s with a := v }

/-- `pair[p]` as a source (R103). -/
def State.pair (s : State) : Pair → Word
  | .bc => s.bc
  | .de => s.de
  | .hl => s.hl
  | .sp => s.sp

/-- `pair[p]` as a destination (R103). -/
def State.setPair (s : State) (p : Pair) (v : Word) : State :=
  match p with
  | .bc => s.setBc v
  | .de => s.setDe v
  | .hl => s.setHl v
  | .sp => { s with sp := v }

/-- `spair[q]` as a source (R104). -/
def State.stackPair (s : State) : StackPair → Word
  | .bc => s.bc
  | .de => s.de
  | .hl => s.hl
  | .af => s.af

/-- `spair[q]` as a destination (R104). -/
def State.setStackPair (s : State) (q : StackPair) (v : Word) : State :=
  match q with
  | .bc => s.setBc v
  | .de => s.setDe v
  | .hl => s.setHl v
  | .af => s.setAf v

/-- XY as a source: IX after DD, IY after FD (R430). -/
def State.index (s : State) : Index → Word
  | .ix => s.ix
  | .iy => s.iy

/-- XY as a destination (R430). -/
def State.setIndex (s : State) (x : Index) (v : Word) : State :=
  match x with
  | .ix => { s with ix := v }
  | .iy => { s with iy := v }

/-- `ppair[p]` as a source (R105): code 2 is the index register itself. -/
def State.indexPair (s : State) (x : Index) : IndexPair → Word
  | .bc => s.bc
  | .de => s.de
  | .xy => s.index x
  | .sp => s.sp

/-! ## Addresses -/

/-- `EA(d) = XY +16 sext_16(d)` (R431). -/
def State.ea (s : State) (x : Index) (d : Byte) : Word := s.index x + sext16 d

/-- The target of a relative jump, from PC past the displacement byte (R111, R302). -/
def State.relative (s : State) (e : Byte) : Word := s.pc + sext16 e

/-- The restart target `p = t·8`, that is `zext_16(op & 0x38)` (R123, R310). -/
def restartTarget (t : Fin 8) : Word := BitVec.ofNat 16 (8 * t.val)

/-- The port of IN A,(n) and OUT (n),A: A ‖ n (R78). -/
def State.portAN (s : State) (n : Byte) : Word := mkWord s.a n

end Sys2Proof.Machine
end

