-- ==== Sys2Proof/Machine/Ops.lean ====
section
/-! DEFINITION. The named operations every meaning is written over: memory and stack (R71-R77), ports (R78-R80), free values,
the T-state credit (R41, R42, R558), transfers of control, and taking an interrupt and returning from one (R502-R507,
R387). -/

namespace Sys2Proof.Machine

/-! ## Memory and stack -/

/-- `MemRead(addr, 1)` (R71). -/
def State.read8 (s : State) (addr : Word) : Byte := Memory.get s.mem addr.toNat

/-- `MemWrite(addr, 1, v)`: ignored below `P_ROM_BOUNDARY` (R72). -/
def State.write8 (s : State) (addr : Word) (v : Byte) : State :=
  { s with mem := if addr.toNat < s.cfg.romBoundary then s.mem else Memory.set s.mem addr.toNat v }

/-- `MemRead(addr, 2)`: little-endian, wrapping (R73, R74). -/
def State.read16 (s : State) (addr : Word) : Word := mkWord (s.read8 (addr + 1)) (s.read8 addr)

/-- `MemWrite(addr, 2, v)`: little-endian, wrapping (R73, R74). -/
def State.write16 (s : State) (addr : Word) (v : Word) : State :=
  (s.write8 addr (loByte v)).write8 (addr + 1) (hiByte v)

/-- `Push16(v)`: the high byte at SP-1, then the low byte at SP-2, which is the new SP (R76). -/
def State.push16 (s : State) (v : Word) : State :=
  { (s.write8 (s.sp - 1) (hiByte v)).write8 (s.sp - 2) (loByte v) with sp := s.sp - 2 }

/-- The word `Pop16()` returns (R77). -/
def State.popped (s : State) : Word := s.read16 s.sp

/-- The state `Pop16()` leaves: SP moved up by 2 (R77). -/
def State.pop16 (s : State) : State := { s with sp := s.sp + 2 }

/-- The two writes of EX (SP),rr: (SP+1) and then (SP); SP is unchanged (R75, R220). -/
def State.exchangeTop (s : State) (v : Word) : State :=
  (s.write8 (s.sp + 1) (hiByte v)).write8 s.sp (loByte v)

/-! ## Ports and free values -/

/-- The byte the port device answers to the next `IoRead` (R79): the next scheduled answer, else a free value; log entry
7. -/
def State.portByte (s : State) : Byte := s.portIn.headD (Config.freePortByte s.draws)

/-- The state after `IoRead(port)` answered `portByte` (R79): the read is noted and its answer used up. -/
def State.ioRead (s : State) (port : Word) : State :=
  { s with
    portLog := s.portLog ++ [.read port s.portByte]
    portIn := s.portIn.tail
    draws := if s.portIn.isEmpty then s.draws + 1 else s.draws }

/-- `IoWrite(port, v)`: an output event in order; nothing else changes (R80). -/
def State.ioWrite (s : State) (port : Word) (v : Byte) : State :=
  { s with portLog := s.portLog ++ [.write port v] }

/-- The first flag bit the spec leaves open in this instruction (S; R164, R416); log entry 8. -/
def State.freeS (s : State) : Bool := Config.freeFlag s.draws

/-- The second one (P/V for BIT, H for block I/O; R164, R416); log entry 8. -/
def State.freeNext (s : State) : Bool := Config.freeFlag (s.draws + 1)

/-- The state after the two free flag bits are drawn. -/
def State.drewFlags (s : State) : State := { s with draws := s.draws + 2 }

/-! ## The T-state credit -/

/-- `Wait(t)`: `R <- R[7] ‖ ((R[6:0] + ⌈t/4⌉) mod 128)` (R42). -/
def State.wait (s : State) (t : Nat) : State :=
  { s with r := (s.r &&& 0x80) ||| BitVec.ofNat 8 (((s.r &&& 0x7F).toNat + (t + 3) / 4) % 128) }

/-- The cost of a path: what `P_TSTATES` says of it, else `t`, the value of R558's table; log entry 5. -/
def State.cost (s : State) (rule : Nat) (second : Bool) (t : Nat) : Nat :=
  (s.cfg.tstates.lookup ⟨rule, second⟩).getD t

/-- The `Wait` at the end of a row's only or first path, whose cost in R558's table is `t`. -/
def State.spend (s : State) (rule t : Nat) : State := s.wait (s.cost rule false t)

/-- The `Wait` at the end of a row's second path: not taken, or the last iteration. -/
def State.spendSecond (s : State) (rule t : Nat) : State := s.wait (s.cost rule true t)

/-! ## Results -/

/-- A result and its flag byte go to A and F. -/
def State.toAcc (s : State) (p : Byte × Byte) : State := { s with a := p.1, f := p.2 }

/-- Only the flag byte of a result is kept (CP, R168). -/
def State.toFlags (s : State) (p : Byte × Byte) : State := { s with f := p.2 }

/-- A result goes to `x[r]` and its flag byte to F. -/
def State.toReg (s : State) (r : Reg8) (p : Byte × Byte) : State := { s.setReg r p.1 with f := p.2 }

/-- A result goes to a memory byte and its flag byte to F, written even where the store is ignored (R275). -/
def State.toMem (s : State) (addr : Word) (p : Byte × Byte) : State := { s.write8 addr p.1 with f := p.2 }

/-- A 16-bit result goes to HL and its flag byte to F. -/
def State.toHl (s : State) (p : Word × Byte) : State := { s.setHl p.1 with f := p.2 }

/-- A 16-bit result goes to XY and its flag byte to F. -/
def State.toIndex (s : State) (x : Index) (p : Word × Byte) : State := { s.setIndex x p.1 with f := p.2 }

/-! ## Transfers of control -/

/-- `PC <- target`. -/
def State.jump (s : State) (target : Word) : State := { s with pc := target }

/-- `Push16(PC); PC <- target`: the pushed address is PCnext (R306, R310). -/
def State.call (s : State) (target : Word) : State := (s.push16 s.pc).jump target

/-- `PC <- Pop16()` (R308). -/
def State.ret (s : State) : State := s.pop16.jump s.popped

/-- `PC <- PC -16 2` of a repeating block instruction (R414). -/
def State.rewind (s : State) : State := { s with pc := s.pc - 2 }

/-! ## Interrupts -/

/-- Taking an interrupt (R502, R503): PC is pushed, PC goes to the vector computed after the push (R506), IFF1 is cleared,
IFF2 becomes `iff2`, the core leaves HALT, and the service costs 17 T-states (R507). -/
def State.takeInterrupt (s : State) (vector : State → Word) (iff2 : Bool) : State :=
  let t := s.push16 s.pc
  { t with pc := vector t, iff1 := false, iff2 := iff2, halted := false }.wait 17

/-- `ServiceNMI()`: to 0x0066, IFF2 preserved (R502). -/
def State.serviceNmi (s : State) : State := s.takeInterrupt (fun _ => 0x0066) s.iff2

/-- Where a maskable interrupt goes, by the interrupt mode (R504, R505, R506; log entry 10). -/
def State.intVector (data : Byte) (s : State) : Word :=
  match s.im with
  | .im0 => (data &&& 0x38).setWidth 16
  | .im1 => 0x0038
  | .im2 => s.read16 (mkWord s.i data)

/-- `ServiceINT(data)`: both flip-flops are cleared (R503). -/
def State.serviceInt (s : State) (data : Byte) : State := s.takeInterrupt (State.intVector data) false

/-- The return from a service: `PC <- Pop16(); IFF1 <- IFF2` (R387, R388). -/
def State.returnFromInterrupt (s : State) : State := { s.ret with iff1 := s.iff2 }

/-- `Unrecognised()`: the core halts, without a `Wait` and without another change (R510). -/
def State.unrecognised (s : State) : State := { s with halted := true }

end Sys2Proof.Machine
end

