-- ==== Sys2Proof/Machine/Arith.lean ====
section
/-! DEFINITION. The arithmetic, logical and flag instructions of the root table (42_arith_logic.md), over the functions of Flags.lean. -/

namespace Sys2Proof.Machine

/-! ## 8-bit arithmetic and logic with A -/

/-- `ADD A,r` (R250, R152). -/
def execAddAR (r : Reg8) (s : State) : Out := .next ((s.toAcc (add8 s.f s.a (s.reg r) false)).spend 250 4)

/-- `ADD A,n` (R251, R152). -/
def execAddAN (n : Byte) (s : State) : Out := .next ((s.toAcc (add8 s.f s.a n false)).spend 251 7)

/-- `ADD A,(HL)` (R252, R152). -/
def execAddAIndHl (s : State) : Out := .next ((s.toAcc (add8 s.f s.a (s.read8 s.hl) false)).spend 252 7)

/-- `ADC A,r` (R253, R152). -/
def execAdcAR (r : Reg8) (s : State) : Out := .next ((s.toAcc (add8 s.f s.a (s.reg r) (flagC s.f))).spend 253 4)

/-- `ADC A,n` (R254, R152). -/
def execAdcAN (n : Byte) (s : State) : Out := .next ((s.toAcc (add8 s.f s.a n (flagC s.f))).spend 254 7)

/-- `ADC A,(HL)` (R255, R152). -/
def execAdcAIndHl (s : State) : Out := .next ((s.toAcc (add8 s.f s.a (s.read8 s.hl) (flagC s.f))).spend 255 7)

/-- `SUB r` (R256, R153). -/
def execSubR (r : Reg8) (s : State) : Out := .next ((s.toAcc (sub8 s.f s.a (s.reg r) false)).spend 256 4)

/-- `SUB n` (R257, R153). -/
def execSubN (n : Byte) (s : State) : Out := .next ((s.toAcc (sub8 s.f s.a n false)).spend 257 7)

/-- `SUB (HL)` (R258, R153). -/
def execSubIndHl (s : State) : Out := .next ((s.toAcc (sub8 s.f s.a (s.read8 s.hl) false)).spend 258 7)

/-- `SBC A,r` (R259, R153). -/
def execSbcAR (r : Reg8) (s : State) : Out := .next ((s.toAcc (sub8 s.f s.a (s.reg r) (flagC s.f))).spend 259 4)

/-- `SBC A,n` (R260, R153). -/
def execSbcAN (n : Byte) (s : State) : Out := .next ((s.toAcc (sub8 s.f s.a n (flagC s.f))).spend 260 7)

/-- `SBC A,(HL)` (R261, R153). -/
def execSbcAIndHl (s : State) : Out := .next ((s.toAcc (sub8 s.f s.a (s.read8 s.hl) (flagC s.f))).spend 261 7)

/-- `AND r` (R262, R154). -/
def execAndR (r : Reg8) (s : State) : Out := .next ((s.toAcc (and8 s.f s.a (s.reg r))).spend 262 4)

/-- `AND n` (R263, R154). -/
def execAndN (n : Byte) (s : State) : Out := .next ((s.toAcc (and8 s.f s.a n)).spend 263 7)

/-- `AND (HL)` (R264, R154). -/
def execAndIndHl (s : State) : Out := .next ((s.toAcc (and8 s.f s.a (s.read8 s.hl))).spend 264 7)

/-- `XOR r` (R265, R156). -/
def execXorR (r : Reg8) (s : State) : Out := .next ((s.toAcc (xor8 s.f s.a (s.reg r))).spend 265 4)

/-- `XOR n` (R266, R156). -/
def execXorN (n : Byte) (s : State) : Out := .next ((s.toAcc (xor8 s.f s.a n)).spend 266 7)

/-- `XOR (HL)` (R267, R156). -/
def execXorIndHl (s : State) : Out := .next ((s.toAcc (xor8 s.f s.a (s.read8 s.hl))).spend 267 7)

/-- `OR r` (R268, R155). -/
def execOrR (r : Reg8) (s : State) : Out := .next ((s.toAcc (or8 s.f s.a (s.reg r))).spend 268 4)

/-- `OR n` (R269, R155). -/
def execOrN (n : Byte) (s : State) : Out := .next ((s.toAcc (or8 s.f s.a n)).spend 269 7)

/-- `OR (HL)` (R270, R155). -/
def execOrIndHl (s : State) : Out := .next ((s.toAcc (or8 s.f s.a (s.read8 s.hl))).spend 270 7)

/-- `CP r` (R271, R153). -/
def execCpR (r : Reg8) (s : State) : Out := .next ((s.toFlags (sub8 s.f s.a (s.reg r) false)).spend 271 4)

/-- `CP n` (R272, R153). -/
def execCpN (n : Byte) (s : State) : Out := .next ((s.toFlags (sub8 s.f s.a n false)).spend 272 7)

/-- `CP (HL)` (R273, R153). -/
def execCpIndHl (s : State) : Out := .next ((s.toFlags (sub8 s.f s.a (s.read8 s.hl) false)).spend 273 7)

/-! ## Increment and decrement -/

/-- `INC r` (R274). -/
def execIncR (r : Reg8) (s : State) : Out := .next ((s.toReg r (inc8 s.f (s.reg r))).spend 274 4)

/-- `INC (HL)` (R275). -/
def execIncIndHl (s : State) : Out := .next ((s.toMem s.hl (inc8 s.f (s.read8 s.hl))).spend 275 11)

/-- `DEC r` (R276). -/
def execDecR (r : Reg8) (s : State) : Out := .next ((s.toReg r (dec8 s.f (s.reg r))).spend 276 4)

/-- `DEC (HL)` (R277). -/
def execDecIndHl (s : State) : Out := .next ((s.toMem s.hl (dec8 s.f (s.read8 s.hl))).spend 277 11)

/-! ## Flag operations -/

/-- `DAA` (R278). -/
def execDaa (s : State) : Out := .next ((s.toAcc (daa8 s.f s.a)).spend 278 4)

/-- `CPL` (R279). -/
def execCpl (s : State) : Out := .next ((s.toAcc (~~~s.a, cplFlags s.f)).spend 279 4)

/-- `SCF` (R280). -/
def execScf (s : State) : Out := .next ({ s with f := scfFlags s.f }.spend 280 4)

/-- `CCF` (R281). -/
def execCcf (s : State) : Out := .next ({ s with f := ccfFlags s.f }.spend 281 4)

/-! ## 16-bit arithmetic -/

/-- `ADD HL,ss` (R282). -/
def execAddHlSs (p : Pair) (s : State) : Out := .next ((s.toHl (add16 s.f s.hl (s.pair p))).spend 282 11)

/-- `INC ss` (R283). -/
def execIncSs (p : Pair) (s : State) : Out := .next ((s.setPair p (s.pair p + 1)).spend 283 6)

/-- `DEC ss` (R284). -/
def execDecSs (p : Pair) (s : State) : Out := .next ((s.setPair p (s.pair p - 1)).spend 284 6)

/-! ## Accumulator rotates -/

/-- `RLCA` (R285). -/
def execRlca (s : State) : Out := .next ((s.toAcc (rlca8 s.f s.a)).spend 285 4)

/-- `RLA` (R286). -/
def execRla (s : State) : Out := .next ((s.toAcc (rla8 s.f s.a)).spend 286 4)

/-- `RRCA` (R287). -/
def execRrca (s : State) : Out := .next ((s.toAcc (rrca8 s.f s.a)).spend 287 4)

/-- `RRA` (R288). -/
def execRra (s : State) : Out := .next ((s.toAcc (rra8 s.f s.a)).spend 288 4)

end Sys2Proof.Machine
end

