-- ==== Sys2Proof/Machine/Block.lean ====
section
/-! DEFINITION. The block transfers, compares and I/O of the ED family (45_ed.md sections 7-10).  `step` is 1 for the incrementing forms
and -1 for the decrementing ones; a repeating form performs one iteration per step (R414). -/

namespace Sys2Proof.Machine

/-- One block transfer (R398, R400). -/
def State.blockLoad (s : State) (step : Word) : State :=
  { (((s.write8 s.de (s.read8 s.hl)).setHl (s.hl + step)).setDe (s.de + step)).setBc (s.bc - 1) with
    f := blockLoadFlags s.f (s.bc - 1 != 0) }

/-- One block compare; A is not changed (R402, R404). -/
def State.blockCompare (s : State) (step : Word) : State :=
  { (s.setHl (s.hl + step)).setBc (s.bc - 1) with
    f := blockCompareFlags s.f s.a (s.read8 s.hl) (s.bc - 1 != 0) }

/-- The end of one block I/O: B is counted down, HL moves, and F is written with S and H free (R416). -/
def State.blockIoEnd (s : State) (step : Word) : State :=
  let b := s.b - 1
  { (s.setHl (s.hl + step)).drewFlags with
    b := b
    f := blockIoFlags s.f (b == 0) (mkWord b s.c != 0) s.freeS s.freeNext }

/-- One block input; the port is BC before B is counted down (R406, R408). -/
def State.blockIn (s : State) (step : Word) : State :=
  ((s.ioRead s.bc).write8 s.hl s.portByte).blockIoEnd step

/-- One block output; the port is BC after B is counted down (R410, R412). -/
def State.blockOut (s : State) (step : Word) : State :=
  (s.ioWrite (mkWord (s.b - 1) s.c) (s.read8 s.hl)).blockIoEnd step

/-- `RepeatIO()`, after the decrement of B (R415). -/
def State.repeatIo (s : State) : Bool :=
  match s.cfg.blockioRepeat with
  | .bNonzero => s.b != 0
  | .bcNonzero => s.bc != 0

/-- The end of an iteration: rewind at cost 21, or fall through at cost 16 (R414). -/
def State.repeatIf (s : State) (again : Bool) (rule : Nat) : State :=
  if again then s.rewind.spend rule 21 else s.spendSecond rule 16

/-- The repeat test of CPIR and CPDR: BC is not 0 after the decrement and the byte just compared differs from A (R403). -/
def State.compareAgain (s : State) : Bool := s.bc - 1 != 0 && s.a - s.read8 s.hl != 0

/-- `LDI` (R398). -/
def execLdi (s : State) : Out := .next ((s.blockLoad 1).spend 398 16)

/-- `LDIR` (R399). -/
def execLdir (s : State) : Out :=
  let t := s.blockLoad 1
  .next (t.repeatIf (t.bc != 0) 399)

/-- `LDD` (R400). -/
def execLdd (s : State) : Out := .next ((s.blockLoad (-1)).spend 400 16)

/-- `LDDR` (R401). -/
def execLddr (s : State) : Out :=
  let t := s.blockLoad (-1)
  .next (t.repeatIf (t.bc != 0) 401)

/-- `CPI` (R402). -/
def execCpi (s : State) : Out := .next ((s.blockCompare 1).spend 402 16)

/-- `CPIR` (R403). -/
def execCpir (s : State) : Out := .next ((s.blockCompare 1).repeatIf s.compareAgain 403)

/-- `CPD` (R404). -/
def execCpd (s : State) : Out := .next ((s.blockCompare (-1)).spend 404 16)

/-- `CPDR` (R405). -/
def execCpdr (s : State) : Out := .next ((s.blockCompare (-1)).repeatIf s.compareAgain 405)

/-- `INI` (R406). -/
def execIni (s : State) : Out := .next ((s.blockIn 1).spend 406 16)

/-- `INIR` (R407). -/
def execInir (s : State) : Out :=
  let t := s.blockIn 1
  .next (t.repeatIf t.repeatIo 407)

/-- `IND` (R408). -/
def execInd (s : State) : Out := .next ((s.blockIn (-1)).spend 408 16)

/-- `INDR` (R409). -/
def execIndr (s : State) : Out :=
  let t := s.blockIn (-1)
  .next (t.repeatIf t.repeatIo 409)

/-- `OUTI` (R410). -/
def execOuti (s : State) : Out := .next ((s.blockOut 1).spend 410 16)

/-- `OTIR` (R411). -/
def execOtir (s : State) : Out :=
  let t := s.blockOut 1
  .next (t.repeatIf t.repeatIo 411)

/-- `OUTD` (R412). -/
def execOutd (s : State) : Out := .next ((s.blockOut (-1)).spend 412 16)

/-- `OTDR` (R413). -/
def execOtdr (s : State) : Out :=
  let t := s.blockOut (-1)
  .next (t.repeatIf t.repeatIo 413)

end Sys2Proof.Machine
end

