-- ==== Sys2Proof/Machine/Cb.lean ====
section
/-! DEFINITION. The CB family: rotates, shifts, and bit test, set and reset (44_cb.md). -/

namespace Sys2Proof.Machine

/-! ## Rotates and shifts -/

/-- `RLC r` (R350). -/
def execRlcR (r : Reg8) (s : State) : Out := .next ((s.toReg r (shift8 .rlc s.f (s.reg r))).spend 350 8)

/-- `RLC (HL)` (R351). -/
def execRlcIndHl (s : State) : Out := .next ((s.toMem s.hl (shift8 .rlc s.f (s.read8 s.hl))).spend 351 15)

/-- `RRC r` (R352). -/
def execRrcR (r : Reg8) (s : State) : Out := .next ((s.toReg r (shift8 .rrc s.f (s.reg r))).spend 352 8)

/-- `RRC (HL)` (R353). -/
def execRrcIndHl (s : State) : Out := .next ((s.toMem s.hl (shift8 .rrc s.f (s.read8 s.hl))).spend 353 15)

/-- `RL r` (R354). -/
def execRlR (r : Reg8) (s : State) : Out := .next ((s.toReg r (shift8 .rl s.f (s.reg r))).spend 354 8)

/-- `RL (HL)` (R355). -/
def execRlIndHl (s : State) : Out := .next ((s.toMem s.hl (shift8 .rl s.f (s.read8 s.hl))).spend 355 15)

/-- `RR r` (R356). -/
def execRrR (r : Reg8) (s : State) : Out := .next ((s.toReg r (shift8 .rr s.f (s.reg r))).spend 356 8)

/-- `RR (HL)` (R357). -/
def execRrIndHl (s : State) : Out := .next ((s.toMem s.hl (shift8 .rr s.f (s.read8 s.hl))).spend 357 15)

/-- `SLA r` (R358). -/
def execSlaR (r : Reg8) (s : State) : Out := .next ((s.toReg r (shift8 .sla s.f (s.reg r))).spend 358 8)

/-- `SLA (HL)` (R359). -/
def execSlaIndHl (s : State) : Out := .next ((s.toMem s.hl (shift8 .sla s.f (s.read8 s.hl))).spend 359 15)

/-- `SRA r` (R360). -/
def execSraR (r : Reg8) (s : State) : Out := .next ((s.toReg r (shift8 .sra s.f (s.reg r))).spend 360 8)

/-- `SRA (HL)` (R361). -/
def execSraIndHl (s : State) : Out := .next ((s.toMem s.hl (shift8 .sra s.f (s.read8 s.hl))).spend 361 15)

/-- `SLL r` (R362). -/
def execSllR (r : Reg8) (s : State) : Out := .next ((s.toReg r (shift8 .sll s.f (s.reg r))).spend 362 8)

/-- `SLL (HL)` (R363). -/
def execSllIndHl (s : State) : Out := .next ((s.toMem s.hl (shift8 .sll s.f (s.read8 s.hl))).spend 363 15)

/-- `SRL r` (R364). -/
def execSrlR (r : Reg8) (s : State) : Out := .next ((s.toReg r (shift8 .srl s.f (s.reg r))).spend 364 8)

/-- `SRL (HL)` (R365). -/
def execSrlIndHl (s : State) : Out := .next ((s.toMem s.hl (shift8 .srl s.f (s.read8 s.hl))).spend 365 15)

/-! ## Bit test, set and reset -/

/-- The effect of BIT on a byte: F only, with S and P/V free (R164). -/
def State.testBit (s : State) (v : Byte) (b : Fin 8) : State :=
  { s.drewFlags with f := bitTest s.f v b s.freeS s.freeNext }

/-- `BIT b,r` (R366). -/
def execBitBR (b : Fin 8) (r : Reg8) (s : State) : Out := .next ((s.testBit (s.reg r) b).spend 366 8)

/-- `BIT b,(HL)` (R367). -/
def execBitBIndHl (b : Fin 8) (s : State) : Out := .next ((s.testBit (s.read8 s.hl) b).spend 367 12)

/-- `SET b,r` (R368). -/
def execSetBR (b : Fin 8) (r : Reg8) (s : State) : Out := .next ((s.setReg r (setBit (s.reg r) b)).spend 368 8)

/-- `SET b,(HL)` (R369). -/
def execSetBIndHl (b : Fin 8) (s : State) : Out := .next ((s.write8 s.hl (setBit (s.read8 s.hl) b)).spend 369 15)

/-- `RES b,r` (R370). -/
def execResBR (b : Fin 8) (r : Reg8) (s : State) : Out := .next ((s.setReg r (resBit (s.reg r) b)).spend 370 8)

/-- `RES b,(HL)` (R371). -/
def execResBIndHl (b : Fin 8) (s : State) : Out := .next ((s.write8 s.hl (resBit (s.read8 s.hl) b)).spend 371 15)

end Sys2Proof.Machine
end

