-- ==== Sys2Proof/Machine/Control.lean ====
section
/-! DEFINITION. Jumps, calls, returns and restarts, NOP, HALT, DI, EI, and the I/O with an immediate port (43_control.md).  None writes F. -/

namespace Sys2Proof.Machine

/-! ## Jumps -/

/-- `JP nn` (R300). -/
def execJpNn (nn : Word) (s : State) : Out := .next ((s.jump nn).spend 300 10)

/-- `JP c,nn` (R301). -/
def execJpCNn (cc : Cond) (nn : Word) (s : State) : Out :=
  .next ((if condHolds cc s.f then s.jump nn else s).spend 301 10)

/-- `JR e` (R302). -/
def execJrE (e : Byte) (s : State) : Out := .next ((s.jump (s.relative e)).spend 302 12)

/-- `JR c,e` (R303). -/
def execJrCE (cc : JrCond) (e : Byte) (s : State) : Out :=
  .next (if condHolds (jrCond cc) s.f then (s.jump (s.relative e)).spend 303 12 else s.spendSecond 303 7)

/-- `JP (HL)`: PC takes the value of HL (R304). -/
def execJpIndHl (s : State) : Out := .next ((s.jump s.hl).spend 304 4)

/-- `DJNZ e` (R305).  Its costs are the source's own, not a value of `P_TSTATES` (R558). -/
def execDjnzE (e : Byte) (s : State) : Out :=
  let t := { s with b := s.b - 1 }
  .next (if t.b ≠ 0 then (t.jump (t.relative e)).wait 13 else t.wait 8)

/-! ## Calls, returns, restarts -/

/-- `CALL nn` (R306). -/
def execCallNn (nn : Word) (s : State) : Out := .next ((s.call nn).spend 306 17)

/-- `CALL c,nn` (R307). -/
def execCallCNn (cc : Cond) (nn : Word) (s : State) : Out :=
  .next (if condHolds cc s.f then (s.call nn).spend 307 17 else s.spendSecond 307 10)

/-- `RET` (R308). -/
def execRet (s : State) : Out := .next (s.ret.spend 308 10)

/-- `RET c` (R309). -/
def execRetC (cc : Cond) (s : State) : Out :=
  .next (if condHolds cc s.f then s.ret.spend 309 11 else s.spendSecond 309 5)

/-- `RST p` (R310). -/
def execRstP (t : Fin 8) (s : State) : Out := .next ((s.call (restartTarget t)).spend 310 11)

/-! ## NOP, HALT, interrupt enable -/

/-- `NOP` (R311). -/
def execNop (s : State) : Out := .next (s.spend 311 4)

/-- `HALT` (R312). -/
def execHalt (s : State) : Out := .next ({ s with halted := true }.spend 312 4)

/-- `DI` (R313). -/
def execDi (s : State) : Out := .next ({ s with iff1 := false, iff2 := false }.spend 313 4)

/-- `EI`; the hidden latch is set only under `P_EI_DELAY` (R314). -/
def execEi (s : State) : Out :=
  .next ({ s with iff1 := true, iff2 := true, eiPending := if s.cfg.eiDelay then true else s.eiPending }.spend 314 4)

/-! ## Port I/O with an immediate port -/

/-- `IN A,(n)` (R315). -/
def execInAIndN (n : Byte) (s : State) : Out := .next ({ s.ioRead (s.portAN n) with a := s.portByte }.spend 315 11)

/-- `OUT (n),A` (R316). -/
def execOutIndNA (n : Byte) (s : State) : Out := .next ((s.ioWrite (s.portAN n) s.a).spend 316 11)

end Sys2Proof.Machine
end

