-- ==== Sys2Proof/Machine/Ed.lean ====
section
/-! DEFINITION. The ED family but for the block instructions (45_ed.md sections 1-6) and its unrecognised second bytes (R510). -/

namespace Sys2Proof.Machine

/-! ## Port I/O through C, 16-bit arithmetic with carry, 16-bit loads -/

/-- `IN r,(C)`; the port uses the old B (R380). -/
def execInRIndC (r : Reg8) (s : State) : Out :=
  .next (((s.ioRead s.bc).toReg r (s.portByte, byteFlags s.f s.portByte (parity s.portByte))).spend 380 12)

/-- `OUT (C),r` (R381). -/
def execOutIndCR (r : Reg8) (s : State) : Out := .next ((s.ioWrite s.bc (s.reg r)).spend 381 12)

/-- `SBC HL,ss` (R382). -/
def execSbcHlSs (p : Pair) (s : State) : Out := .next ((s.toHl (sbc16 s.f s.hl (s.pair p) (flagC s.f))).spend 382 15)

/-- `ADC HL,ss` (R383). -/
def execAdcHlSs (p : Pair) (s : State) : Out := .next ((s.toHl (adc16 s.f s.hl (s.pair p) (flagC s.f))).spend 383 15)

/-- `LD (nn),dd` (R384). -/
def execLdIndNnDd (p : Pair) (nn : Word) (s : State) : Out := .next ((s.write16 nn (s.pair p)).spend 384 20)

/-- `LD dd,(nn)` (R385). -/
def execLdDdIndNn (p : Pair) (nn : Word) (s : State) : Out := .next ((s.setPair p (s.read16 nn)).spend 385 20)

/-! ## NEG, returns, interrupt mode -/

/-- `NEG` (R386). -/
def execNeg (s : State) : Out := .next ((s.toAcc (neg8 s.f s.a)).spend 386 8)

/-- `RETN` (R387). -/
def execRetn (s : State) : Out := .next (s.returnFromInterrupt.spend 387 14)

/-- `RETI`, identical to RETN here (R388). -/
def execReti (s : State) : Out := .next (s.returnFromInterrupt.spend 388 14)

/-- `IM 0` (R389). -/
def execIm0 (s : State) : Out := .next ({ s with im := .im0 }.spend 389 8)

/-- `IM 1` (R390). -/
def execIm1 (s : State) : Out := .next ({ s with im := .im1 }.spend 390 8)

/-- `IM 2` (R391). -/
def execIm2 (s : State) : Out := .next ({ s with im := .im2 }.spend 391 8)

/-! ## I and R transfers -/

/-- `LD I,A` (R392). -/
def execLdIA (s : State) : Out := .next ({ s with i := s.a }.spend 392 9)

/-- `LD R,A`, followed by its own credit (R393). -/
def execLdRA (s : State) : Out := .next ({ s with r := s.a }.spend 393 9)

/-- `LD A,I`; P/V takes IFF2 (R394). -/
def execLdAI (s : State) : Out := .next ((s.toAcc (s.i, byteFlags s.f s.i s.iff2)).spend 394 9)

/-- `LD A,R`, before this instruction's own credit; P/V takes IFF2 (R395). -/
def execLdAR (s : State) : Out := .next ((s.toAcc (s.r, byteFlags s.f s.r s.iff2)).spend 395 9)

/-! ## Nibble rotates -/

/-- A nibble rotate: the byte at HL and A take the given values, and F the flags of the new A (R396, R397). -/
def State.nibbleRotate (s : State) (mem acc : Byte) : State :=
  (s.write8 s.hl mem).toAcc (acc, byteFlags s.f acc (parity acc))

/-- `RRD` (R396). -/
def execRrd (s : State) : Out :=
  let m := s.read8 s.hl
  .next ((s.nibbleRotate (s.a <<< 4 ||| m >>> 4) (s.a &&& 0xF0 ||| m &&& 0x0F)).spend 396 18)

/-- `RLD` (R397). -/
def execRld (s : State) : Out :=
  let m := s.read8 s.hl
  .next ((s.nibbleRotate (m <<< 4 ||| s.a &&& 0x0F) (s.a &&& 0xF0 ||| m >>> 4)).spend 397 18)

/-! ## Unrecognised second bytes -/

/-- A second byte outside ED_SET halts the core (R510). -/
def execUnrecEd (_op : Byte) (s : State) : Out := .next (s.unrecognised)

end Sys2Proof.Machine
end

