-- ==== Sys2Proof/WellFormed.lean ====
section
/-! DEFINITION. Well-formed instructions.  The operand types rule out every excluded field value of the table; what is
left to check is that the second byte of a fallback row lies in the class the row stands for (R116, R117, R124). -/

namespace Sys2Proof

/-- ED_SET: the 58 recognised second bytes after ED (R116). -/
def edSet : List Byte :=
  [0x40, 0x48, 0x50, 0x58, 0x60, 0x68, 0x78, 0x41, 0x49, 0x51, 0x59, 0x61, 0x69, 0x79,
   0x42, 0x52, 0x62, 0x72, 0x4A, 0x5A, 0x6A, 0x7A, 0x43, 0x53, 0x63, 0x73, 0x4B, 0x5B,
   0x6B, 0x7B, 0x44, 0x45, 0x4D, 0x46, 0x56, 0x5E, 0x47, 0x4F, 0x57, 0x5F, 0x67, 0x6F,
   0xA0, 0xA1, 0xA2, 0xA3, 0xA8, 0xA9, 0xAA, 0xAB, 0xB0, 0xB1, 0xB2, 0xB3, 0xB8, 0xB9,
   0xBA, 0xBB]

/-- INDEX_SET: the 39 second bytes with an indexed form after DD or FD (R117). -/
def indexSet : List Byte :=
  [0x09, 0x19, 0x29, 0x39, 0x21, 0x22, 0x23, 0x2A, 0x2B, 0x34, 0x35, 0x36, 0x46, 0x4E,
   0x56, 0x5E, 0x66, 0x6E, 0x7E, 0x70, 0x71, 0x72, 0x73, 0x74, 0x75, 0x77, 0x86, 0x8E,
   0x96, 0x9E, 0xA6, 0xAE, 0xB6, 0xBE, 0xE1, 0xE3, 0xE5, 0xE9, 0xF9]

/-- The UNRECOGNISED class: the 51 second bytes that halt after DD or FD (R117, R471). -/
def unrecognisedSet : List Byte :=
  [0x24, 0x25, 0x26, 0x2C, 0x2D, 0x2E, 0x44, 0x45, 0x4C, 0x4D, 0x54, 0x55, 0x5C, 0x5D,
   0x60, 0x61, 0x62, 0x63, 0x64, 0x65, 0x67, 0x68, 0x69, 0x6A, 0x6B, 0x6C, 0x6D, 0x6F,
   0x7C, 0x7D, 0x84, 0x85, 0x8C, 0x8D, 0x94, 0x95, 0x9C, 0x9D, 0xA4, 0xA5, 0xAC, 0xAD,
   0xB4, 0xB5, 0xBC, 0xBD, 0xD9, 0xDD, 0xEB, 0xED, 0xFD]

/-- A second byte after ED outside ED_SET (R116, R120). -/
def isUnrecognisedEd (op : Byte) : Bool := !edSet.contains op

/-- A second byte of the UNRECOGNISED class (R117). -/
def isUnrecognisedIndex (op : Byte) : Bool := unrecognisedSet.contains op

/-- A second byte of OTHER_SET: every remaining byte but CB, which starts the four-byte forms (R117). -/
def isOther (op : Byte) : Bool := !(op == 0xCB || indexSet.contains op || unrecognisedSet.contains op)

/-- The checks of a well-formed instruction. -/
def Instr.wf : Instr → Bool
  | .unrecEd op => isUnrecognisedEd op
  | .ddOther op => isOther op
  | .unrecDd op => isUnrecognisedIndex op
  | .fdOther op => isOther op
  | .unrecFd op => isUnrecognisedIndex op
  | _ => true

end Sys2Proof
end

