-- ==== Sys2Proof/Decode.lean ====
section
/-! DEFINITION. The decoder (R100-R119: the prefix multiplexer and the tables), total on four bytes and on any list of
bytes, and the encoder, written from the encodings of spec/opcode_table.json. -/

namespace Sys2Proof

/-! ## Field codes -/

/-- The register of an 8-bit code; code 6, the memory operand, is none (R102). -/
def Reg8.ofCode : Fin 8 → Option Reg8
  | 0 => some .b
  | 1 => some .c
  | 2 => some .d
  | 3 => some .e
  | 4 => some .h
  | 5 => some .l
  | 6 => none
  | 7 => some .a

/-- The pair of a `dd` or `ss` code (R103). -/
def Pair.ofCode : Fin 4 → Pair
  | 0 => .bc
  | 1 => .de
  | 2 => .hl
  | 3 => .sp

/-- The pair of a `qq` code (R104). -/
def StackPair.ofCode : Fin 4 → StackPair
  | 0 => .bc
  | 1 => .de
  | 2 => .hl
  | 3 => .af

/-- The pair of a `pp` code (R105). -/
def IndexPair.ofCode : Fin 4 → IndexPair
  | 0 => .bc
  | 1 => .de
  | 2 => .xy
  | 3 => .sp

/-- The condition of a code (R106). -/
def Cond.ofCode : Fin 8 → Cond
  | 0 => .nz
  | 1 => .z
  | 2 => .nc
  | 3 => .c
  | 4 => .po
  | 5 => .pe
  | 6 => .p
  | 7 => .m

/-- The shift operation of a code (R108). -/
def Rot.ofCode : Fin 8 → Rot
  | 0 => .rlc
  | 1 => .rrc
  | 2 => .rl
  | 3 => .rr
  | 4 => .sla
  | 5 => .sra
  | 6 => .sll
  | 7 => .srl

/-- The form for a register code: the register form, or the memory form for code 6. -/
def onReg (code : Fin 8) (reg : Reg8 → Instr) (mem : Instr) : Instr :=
  match Reg8.ofCode code with
  | some r => reg r
  | none => mem

/-- The form an index prefix selects: the first after DD, the second after FD (R430). -/
def pick (x : Index) (ix iy : Instr) : Instr :=
  match x with
  | .ix => ix
  | .iy => iy

/-! ## The root table -/

/-- Bytes 00-3F of the root table (R114; 30_encoding.md section 5). -/
def decodeRoot0 (op n : Byte) (nn : Word) : Instr :=
  match fieldLo op with
  | 0 => match fieldR op with
    | 0 => .nop
    | 1 => .exAfAf
    | 2 => .djnzE n
    | 3 => .jrE n
    | 4 => .jrCE .nz n
    | 5 => .jrCE .z n
    | 6 => .jrCE .nc n
    | 7 => .jrCE .c n
  | 1 => if (fieldR op).val % 2 = 0 then .ldDdNn (.ofCode (fieldP op)) nn else .addHlSs (.ofCode (fieldP op))
  | 2 => match fieldR op with
    | 0 => .ldIndBcA
    | 1 => .ldAIndBc
    | 2 => .ldIndDeA
    | 3 => .ldAIndDe
    | 4 => .ldIndNnHl nn
    | 5 => .ldHlIndNn nn
    | 6 => .ldIndNnA nn
    | 7 => .ldAIndNn nn
  | 3 => if (fieldR op).val % 2 = 0 then .incSs (.ofCode (fieldP op)) else .decSs (.ofCode (fieldP op))
  | 4 => onReg (fieldR op) .incR .incIndHl
  | 5 => onReg (fieldR op) .decR .decIndHl
  | 6 => onReg (fieldR op) (.ldRN · n) (.ldIndHlN n)
  | 7 => match fieldR op with
    | 0 => .rlca
    | 1 => .rrca
    | 2 => .rla
    | 3 => .rra
    | 4 => .daa
    | 5 => .cpl
    | 6 => .scf
    | 7 => .ccf

/-- Bytes 40-7F: `LD dst, src`, with 76 HALT (R114). -/
def decodeRoot1 (op : Byte) : Instr :=
  match Reg8.ofCode (fieldR op), Reg8.ofCode (fieldLo op) with
  | some r, some r' => .ldRR r r'
  | some r, none => .ldRIndHl r
  | none, some r' => .ldIndHlR r'
  | none, none => .halt

/-- Bytes 80-BF: the 8-bit arithmetic and logical group (R107). -/
def decodeRoot2 (op : Byte) : Instr :=
  match fieldR op with
  | 0 => onReg (fieldLo op) .addAR .addAIndHl
  | 1 => onReg (fieldLo op) .adcAR .adcAIndHl
  | 2 => onReg (fieldLo op) .subR .subIndHl
  | 3 => onReg (fieldLo op) .sbcAR .sbcAIndHl
  | 4 => onReg (fieldLo op) .andR .andIndHl
  | 5 => onReg (fieldLo op) .xorR .xorIndHl
  | 6 => onReg (fieldLo op) .orR .orIndHl
  | 7 => onReg (fieldLo op) .cpR .cpIndHl

/-- Bytes C0-FF of the root table; none for the four prefix bytes (R114). -/
def decodeRoot3 (op n : Byte) (nn : Word) : Option Instr :=
  match fieldLo op with
  | 0 => some (.retC (.ofCode (fieldR op)))
  | 1 => match fieldR op with
    | 0 => some (.popQq .bc)
    | 1 => some .ret
    | 2 => some (.popQq .de)
    | 3 => some .exx
    | 4 => some (.popQq .hl)
    | 5 => some .jpIndHl
    | 6 => some (.popQq .af)
    | 7 => some .ldSpHl
  | 2 => some (.jpCNn (.ofCode (fieldR op)) nn)
  | 3 => match fieldR op with
    | 0 => some (.jpNn nn)
    | 1 => none
    | 2 => some (.outIndNA n)
    | 3 => some (.inAIndN n)
    | 4 => some .exIndSpHl
    | 5 => some .exDeHl
    | 6 => some .di
    | 7 => some .ei
  | 4 => some (.callCNn (.ofCode (fieldR op)) nn)
  | 5 => match fieldR op with
    | 0 => some (.pushQq .bc)
    | 1 => some (.callNn nn)
    | 2 => some (.pushQq .de)
    | 3 => none
    | 4 => some (.pushQq .hl)
    | 5 => none
    | 6 => some (.pushQq .af)
    | 7 => none
  | 6 => match fieldR op with
    | 0 => some (.addAN n)
    | 1 => some (.adcAN n)
    | 2 => some (.subN n)
    | 3 => some (.sbcAN n)
    | 4 => some (.andN n)
    | 5 => some (.xorN n)
    | 6 => some (.orN n)
    | 7 => some (.cpN n)
  | 7 => some (.rstP (fieldR op))

/-- The root instruction of a first byte and its operand bytes; none for CB, DD, ED and FD (R114). -/
def decodeRoot (op n m : Byte) : Option Instr :=
  match fieldHi op with
  | 0 => some (decodeRoot0 op n (mkWord m n))
  | 1 => some (decodeRoot1 op)
  | 2 => some (decodeRoot2 op)
  | 3 => decodeRoot3 op n (mkWord m n)

/-! ## The prefixed tables -/

/-- The CB table: every second byte is an instruction (R115). -/
def decodeCb (op : Byte) : Instr :=
  match fieldHi op with
  | 0 => match fieldR op with
    | 0 => onReg (fieldLo op) .rlcR .rlcIndHl
    | 1 => onReg (fieldLo op) .rrcR .rrcIndHl
    | 2 => onReg (fieldLo op) .rlR .rlIndHl
    | 3 => onReg (fieldLo op) .rrR .rrIndHl
    | 4 => onReg (fieldLo op) .slaR .slaIndHl
    | 5 => onReg (fieldLo op) .sraR .sraIndHl
    | 6 => onReg (fieldLo op) .sllR .sllIndHl
    | 7 => onReg (fieldLo op) .srlR .srlIndHl
  | 1 => onReg (fieldLo op) (.bitBR (fieldR op)) (.bitBIndHl (fieldR op))
  | 2 => onReg (fieldLo op) (.resBR (fieldR op)) (.resBIndHl (fieldR op))
  | 3 => onReg (fieldLo op) (.setBR (fieldR op)) (.setBIndHl (fieldR op))

/-- Bytes 40-7F of the ED table (R116, R120; 30_encoding.md section 5). -/
def decodeEd1 (op : Byte) (nn : Word) : Instr :=
  match fieldLo op with
  | 0 => onReg (fieldR op) .inRIndC (.unrecEd op)
  | 1 => onReg (fieldR op) .outIndCR (.unrecEd op)
  | 2 => if (fieldR op).val % 2 = 0 then .sbcHlSs (.ofCode (fieldP op)) else .adcHlSs (.ofCode (fieldP op))
  | 3 => if (fieldR op).val % 2 = 0 then .ldIndNnDd (.ofCode (fieldP op)) nn else .ldDdIndNn (.ofCode (fieldP op)) nn
  | 4 => match fieldR op with
    | 0 => .neg
    | 1 | 2 | 3 | 4 | 5 | 6 | 7 => .unrecEd op
  | 5 => match fieldR op with
    | 0 => .retn
    | 1 => .reti
    | 2 | 3 | 4 | 5 | 6 | 7 => .unrecEd op
  | 6 => match fieldR op with
    | 0 => .im0
    | 2 => .im1
    | 3 => .im2
    | 1 | 4 | 5 | 6 | 7 => .unrecEd op
  | 7 => match fieldR op with
    | 0 => .ldIA
    | 1 => .ldRA
    | 2 => .ldAI
    | 3 => .ldAR
    | 4 => .rrd
    | 5 => .rld
    | 6 | 7 => .unrecEd op

/-- Bytes 80-BF of the ED table: the block instructions (R116). -/
def decodeEd2 (op : Byte) : Instr :=
  match fieldR op, fieldLo op with
  | 4, 0 => .ldi
  | 4, 1 => .cpi
  | 4, 2 => .ini
  | 4, 3 => .outi
  | 5, 0 => .ldd
  | 5, 1 => .cpd
  | 5, 2 => .ind
  | 5, 3 => .outd
  | 6, 0 => .ldir
  | 6, 1 => .cpir
  | 6, 2 => .inir
  | 6, 3 => .otir
  | 7, 0 => .lddr
  | 7, 1 => .cpdr
  | 7, 2 => .indr
  | 7, 3 => .otdr
  | _, _ => .unrecEd op

/-- The ED table (R116); every byte outside ED_SET is unrecognised (R120). -/
def decodeEd (op n m : Byte) : Instr :=
  match fieldHi op with
  | 0 => .unrecEd op
  | 1 => decodeEd1 op (mkWord m n)
  | 2 => decodeEd2 op
  | 3 => .unrecEd op

/-- The DD CB d op and FD CB d op tables: every fourth byte is an instruction (R118). -/
def decodeIndexCb (x : Index) (d op : Byte) : Instr :=
  match fieldHi op with
  | 0 => onReg (fieldLo op) (fun r => pick x (.rotIndIxDR (.ofCode (fieldR op)) d r) (.rotIndIyDR (.ofCode (fieldR op)) d r))
      (match fieldR op with
        | 0 => pick x (.rlcIndIxD d) (.rlcIndIyD d)
        | 1 => pick x (.rrcIndIxD d) (.rrcIndIyD d)
        | 2 => pick x (.rlIndIxD d) (.rlIndIyD d)
        | 3 => pick x (.rrIndIxD d) (.rrIndIyD d)
        | 4 => pick x (.slaIndIxD d) (.slaIndIyD d)
        | 5 => pick x (.sraIndIxD d) (.sraIndIyD d)
        | 6 => pick x (.sllIndIxD d) (.sllIndIyD d)
        | 7 => pick x (.srlIndIxD d) (.srlIndIyD d))
  | 1 => pick x (.bitBIndIxD (fieldR op) d (op.extractLsb' 0 3)) (.bitBIndIyD (fieldR op) d (op.extractLsb' 0 3))
  | 2 => onReg (fieldLo op) (fun r => pick x (.resBIndIxDR (fieldR op) d r) (.resBIndIyDR (fieldR op) d r))
      (pick x (.resBIndIxD (fieldR op) d) (.resBIndIyD (fieldR op) d))
  | 3 => onReg (fieldLo op) (fun r => pick x (.setBIndIxDR (fieldR op) d r) (.setBIndIyDR (fieldR op) d r))
      (pick x (.setBIndIxD (fieldR op) d) (.setBIndIyD (fieldR op) d))

/-- The INDEX_SET rows of the DD and FD tables, by the second byte and the two after it; none for a byte outside
INDEX_SET (R117). -/
def decodeIndexSet (x : Index) (op b2 b3 : Byte) : Option Instr :=
  match fieldHi op with
  | 0 => match fieldLo op with
    | 1 =>
      if (fieldR op).val % 2 = 1 then some (pick x (.addIxPp (.ofCode (fieldP op))) (.addIyPp (.ofCode (fieldP op))))
      else if op = 0x21 then some (pick x (.ldIxNn (mkWord b3 b2)) (.ldIyNn (mkWord b3 b2)))
      else none
    | 2 => match fieldR op with
      | 4 => some (pick x (.ldIndNnIx (mkWord b3 b2)) (.ldIndNnIy (mkWord b3 b2)))
      | 5 => some (pick x (.ldIxIndNn (mkWord b3 b2)) (.ldIyIndNn (mkWord b3 b2)))
      | 0 | 1 | 2 | 3 | 6 | 7 => none
    | 3 => match fieldR op with
      | 4 => some (pick x .incIx .incIy)
      | 5 => some (pick x .decIx .decIy)
      | 0 | 1 | 2 | 3 | 6 | 7 => none
    | 4 => if op = 0x34 then some (pick x (.incIndIxD b2) (.incIndIyD b2)) else none
    | 5 => if op = 0x35 then some (pick x (.decIndIxD b2) (.decIndIyD b2)) else none
    | 6 => if op = 0x36 then some (pick x (.ldIndIxDN b2 b3) (.ldIndIyDN b2 b3)) else none
    | 0 | 7 => none
  | 1 => match Reg8.ofCode (fieldR op), Reg8.ofCode (fieldLo op) with
    | some r, none => some (pick x (.ldRIndIxD r b2) (.ldRIndIyD r b2))
    | none, some r' => some (pick x (.ldIndIxDR b2 r') (.ldIndIyDR b2 r'))
    | _, _ => none
  | 2 => if fieldLo op = 6 then
      some (match fieldR op with
        | 0 => pick x (.addAIndIxD b2) (.addAIndIyD b2)
        | 1 => pick x (.adcAIndIxD b2) (.adcAIndIyD b2)
        | 2 => pick x (.subIndIxD b2) (.subIndIyD b2)
        | 3 => pick x (.sbcAIndIxD b2) (.sbcAIndIyD b2)
        | 4 => pick x (.andIndIxD b2) (.andIndIyD b2)
        | 5 => pick x (.xorIndIxD b2) (.xorIndIyD b2)
        | 6 => pick x (.orIndIxD b2) (.orIndIyD b2)
        | 7 => pick x (.cpIndIxD b2) (.cpIndIyD b2))
    else none
  | 3 => match fieldR op, fieldLo op with
    | 4, 1 => some (pick x .popIx .popIy)
    | 4, 3 => some (pick x .exIndSpIx .exIndSpIy)
    | 4, 5 => some (pick x .pushIx .pushIy)
    | 5, 1 => some (pick x .jpIndIx .jpIndIy)
    | 7, 1 => some (pick x .ldSpIx .ldSpIy)
    | _, _ => none

/-- The DD and FD tables: DD CB and FD CB, INDEX_SET, the UNRECOGNISED class, and OTHER_SET (R113, R117). -/
def decodeIndex (x : Index) (b1 b2 b3 : Byte) : Instr :=
  if b1 = 0xCB then decodeIndexCb x b2 b3
  else match decodeIndexSet x b1 b2 b3 with
    | some i => i
    | none =>
      if unrecognisedSet.contains b1 then pick x (.unrecDd b1) (.unrecFd b1) else pick x (.ddOther b1) (.fdOther b1)

/-! ## The prefix multiplexer -/

/-- The instruction that starts at the first of four bytes (R113).  A byte the selected row does not need has no
influence (R119). -/
def decode4 (b0 b1 b2 b3 : Byte) : Instr :=
  match decodeRoot b0 b1 b2 with
  | some i => i
  | none =>
    if b0 = 0xCB then decodeCb b1
    else if b0 = 0xED then decodeEd b1 b2 b3
    else if b0 = 0xDD then decodeIndex .ix b1 b2 b3
    else decodeIndex .iy b1 b2 b3

/-- The length in bytes of an instruction (R100, R119; column `length` of spec/opcode_table.json).  A DD or FD before a
byte of OTHER_SET counts two: under `ROOT` the meaning fetches the root operands itself (R470). -/
def Instr.length : Instr → Nat
  | .ldRR .. | .ldRIndHl .. | .ldIndHlR .. | .ldAIndBc | .ldAIndDe | .ldIndBcA | .ldIndDeA | .ldSpHl | .pushQq ..
  | .popQq .. | .exDeHl | .exAfAf | .exx | .exIndSpHl | .addAR .. | .addAIndHl | .adcAR .. | .adcAIndHl | .subR ..
  | .subIndHl | .sbcAR .. | .sbcAIndHl | .andR .. | .andIndHl | .xorR .. | .xorIndHl | .orR .. | .orIndHl | .cpR ..
  | .cpIndHl | .incR .. | .incIndHl | .decR .. | .decIndHl | .daa | .cpl | .scf | .ccf | .addHlSs .. | .incSs ..
  | .decSs .. | .rlca | .rla | .rrca | .rra | .jpIndHl | .ret | .retC .. | .rstP .. | .nop | .halt | .di | .ei => 1
  | .ldRN .. | .ldIndHlN .. | .addAN .. | .adcAN .. | .subN .. | .sbcAN .. | .andN .. | .xorN .. | .orN ..
  | .cpN .. | .jrE .. | .jrCE .. | .djnzE .. | .inAIndN .. | .outIndNA .. | .rlcR .. | .rlcIndHl | .rrcR ..
  | .rrcIndHl | .rlR .. | .rlIndHl | .rrR .. | .rrIndHl | .slaR .. | .slaIndHl | .sraR .. | .sraIndHl | .sllR ..
  | .sllIndHl | .srlR .. | .srlIndHl | .bitBR .. | .bitBIndHl .. | .setBR .. | .setBIndHl .. | .resBR ..
  | .resBIndHl .. | .inRIndC .. | .outIndCR .. | .sbcHlSs .. | .adcHlSs .. | .neg | .retn | .reti | .im0 | .im1
  | .im2 | .ldIA | .ldRA | .ldAI | .ldAR | .rrd | .rld | .ldi | .ldir | .ldd | .lddr | .cpi | .cpir | .cpd | .cpdr
  | .ini | .inir | .ind | .indr | .outi | .otir | .outd | .otdr | .unrecEd .. | .ldSpIx | .pushIx | .popIx
  | .exIndSpIx | .addIxPp .. | .incIx | .decIx | .jpIndIx | .ddOther .. | .unrecDd .. | .ldSpIy | .pushIy | .popIy
  | .exIndSpIy | .addIyPp .. | .incIy | .decIy | .jpIndIy | .fdOther .. | .unrecFd .. => 2
  | .ldAIndNn .. | .ldIndNnA .. | .ldDdNn .. | .ldHlIndNn .. | .ldIndNnHl .. | .jpNn .. | .jpCNn .. | .callNn ..
  | .callCNn .. | .ldRIndIxD .. | .ldIndIxDR .. | .addAIndIxD .. | .adcAIndIxD .. | .subIndIxD .. | .sbcAIndIxD ..
  | .andIndIxD .. | .xorIndIxD .. | .orIndIxD .. | .cpIndIxD .. | .incIndIxD .. | .decIndIxD .. | .ldRIndIyD ..
  | .ldIndIyDR .. | .addAIndIyD .. | .adcAIndIyD .. | .subIndIyD .. | .sbcAIndIyD .. | .andIndIyD ..
  | .xorIndIyD .. | .orIndIyD .. | .cpIndIyD .. | .incIndIyD .. | .decIndIyD .. => 3
  | .ldIndNnDd .. | .ldDdIndNn .. | .ldIxNn .. | .ldIxIndNn .. | .ldIndNnIx .. | .ldIndIxDN .. | .rlcIndIxD ..
  | .rrcIndIxD .. | .rlIndIxD .. | .rrIndIxD .. | .slaIndIxD .. | .sraIndIxD .. | .sllIndIxD .. | .srlIndIxD ..
  | .rotIndIxDR .. | .bitBIndIxD .. | .resBIndIxD .. | .setBIndIxD .. | .resBIndIxDR .. | .setBIndIxDR ..
  | .ldIyNn .. | .ldIyIndNn .. | .ldIndNnIy .. | .ldIndIyDN .. | .rlcIndIyD .. | .rrcIndIyD .. | .rlIndIyD ..
  | .rrIndIyD .. | .slaIndIyD .. | .sraIndIyD .. | .sllIndIyD .. | .srlIndIyD .. | .rotIndIyDR .. | .bitBIndIyD ..
  | .resBIndIyD .. | .setBIndIyD .. | .resBIndIyDR .. | .setBIndIyDR .. => 4

/-- Why a list of bytes holds no instruction at its start. -/
inductive DecodeError
  /-- There is no byte. -/
  | noByte
  /-- The list ends inside the instruction its first bytes select. -/
  | truncated
  deriving DecidableEq, Repr

/-- The instruction at the start of a list of bytes and the bytes after it; total on any list, rejecting by name. -/
def decode (bs : List Byte) : Except DecodeError (Instr × List Byte) :=
  if bs.isEmpty then .error .noByte
  else
    let i := decode4 (bs.getD 0 0) (bs.getD 1 0) (bs.getD 2 0) (bs.getD 3 0)
    if i.length ≤ bs.length then .ok (i, bs.drop i.length) else .error .truncated

/-- Byte `k` of an instruction whose `nbits` bits are the number `w`, as spec/opcode_table.json numbers them: the first
byte is the most significant one (R124), and a byte past `nbits` is 0; log entry 11. -/
def tableByte (nbits w k : Nat) : Byte :=
  if 8 * (k + 1) ≤ nbits then BitVec.ofNat 8 (w / 2 ^ (nbits - 8 * (k + 1))) else 0

/-- The instruction the decoder reads from a word of spec/opcode_table.json; none when `nbits` is not a whole number of
bytes from 1 to 4 (R100). -/
def decodeTableWord (nbits w : Nat) : Option Instr :=
  if nbits % 8 = 0 ∧ 8 ≤ nbits ∧ nbits ≤ 32 then
    some (decode4 (tableByte nbits w 0) (tableByte nbits w 1) (tableByte nbits w 2) (tableByte nbits w 3))
  else none

/-! ## The encoder -/

/-- The code of a register in a field r, s or reg (R102). -/
def Reg8.code : Reg8 → Byte
  | .b => 0
  | .c => 1
  | .d => 2
  | .e => 3
  | .h => 4
  | .l => 5
  | .a => 7

/-- The code of a pair in a field p (R103). -/
def Pair.code : Pair → Byte
  | .bc => 0
  | .de => 1
  | .hl => 2
  | .sp => 3

/-- The code of a stack pair in a field q (R104). -/
def StackPair.code : StackPair → Byte
  | .bc => 0
  | .de => 1
  | .hl => 2
  | .af => 3

/-- The code of an index pair in a field p (R105). -/
def IndexPair.code : IndexPair → Byte
  | .bc => 0
  | .de => 1
  | .xy => 2
  | .sp => 3

/-- The code of a condition (R106). -/
def Cond.code : Cond → Byte
  | .nz => 0
  | .z => 1
  | .nc => 2
  | .c => 3
  | .po => 4
  | .pe => 5
  | .p => 6
  | .m => 7

/-- The code of a JR condition in its 2-bit field (R106). -/
def JrCond.code : JrCond → Byte
  | .nz => 0
  | .z => 1
  | .nc => 2
  | .c => 3

/-- The code of a shift operation (R108). -/
def Rot.code : Rot → Byte
  | .rlc => 0
  | .rrc => 1
  | .rl => 2
  | .rr => 3
  | .sla => 4
  | .sra => 5
  | .sll => 6
  | .srl => 7

/-- A bit number or restart field as a 3-bit code (R108, R123). -/
def bitCode (b : Fin 8) : Byte := BitVec.ofNat 8 b.val

/-- The bytes of an instruction, first byte first: the column `encoding` of spec/opcode_table.json. -/
def encode : Instr → List Byte
  | .ldRR r r' => [0x40 ||| r.code <<< 3 ||| r'.code]
  | .ldRN r n => [0x06 ||| r.code <<< 3, n]
  | .ldRIndHl r => [0x46 ||| r.code <<< 3]
  | .ldIndHlR r' => [0x70 ||| r'.code]
  | .ldIndHlN n => [0x36, n]
  | .ldAIndBc => [0x0A]
  | .ldAIndDe => [0x1A]
  | .ldAIndNn nn => [0x3A, loByte nn, hiByte nn]
  | .ldIndBcA => [0x02]
  | .ldIndDeA => [0x12]
  | .ldIndNnA nn => [0x32, loByte nn, hiByte nn]
  | .ldDdNn p nn => [0x01 ||| p.code <<< 4, loByte nn, hiByte nn]
  | .ldHlIndNn nn => [0x2A, loByte nn, hiByte nn]
  | .ldIndNnHl nn => [0x22, loByte nn, hiByte nn]
  | .ldSpHl => [0xF9]
  | .pushQq q => [0xC5 ||| q.code <<< 4]
  | .popQq q => [0xC1 ||| q.code <<< 4]
  | .exDeHl => [0xEB]
  | .exAfAf => [0x08]
  | .exx => [0xD9]
  | .exIndSpHl => [0xE3]
  | .addAR r => [0x80 ||| r.code]
  | .addAN n => [0xC6, n]
  | .addAIndHl => [0x86]
  | .adcAR r => [0x88 ||| r.code]
  | .adcAN n => [0xCE, n]
  | .adcAIndHl => [0x8E]
  | .subR r => [0x90 ||| r.code]
  | .subN n => [0xD6, n]
  | .subIndHl => [0x96]
  | .sbcAR r => [0x98 ||| r.code]
  | .sbcAN n => [0xDE, n]
  | .sbcAIndHl => [0x9E]
  | .andR r => [0xA0 ||| r.code]
  | .andN n => [0xE6, n]
  | .andIndHl => [0xA6]
  | .xorR r => [0xA8 ||| r.code]
  | .xorN n => [0xEE, n]
  | .xorIndHl => [0xAE]
  | .orR r => [0xB0 ||| r.code]
  | .orN n => [0xF6, n]
  | .orIndHl => [0xB6]
  | .cpR r => [0xB8 ||| r.code]
  | .cpN n => [0xFE, n]
  | .cpIndHl => [0xBE]
  | .incR r => [0x04 ||| r.code <<< 3]
  | .incIndHl => [0x34]
  | .decR r => [0x05 ||| r.code <<< 3]
  | .decIndHl => [0x35]
  | .daa => [0x27]
  | .cpl => [0x2F]
  | .scf => [0x37]
  | .ccf => [0x3F]
  | .addHlSs p => [0x09 ||| p.code <<< 4]
  | .incSs p => [0x03 ||| p.code <<< 4]
  | .decSs p => [0x0B ||| p.code <<< 4]
  | .rlca => [0x07]
  | .rla => [0x17]
  | .rrca => [0x0F]
  | .rra => [0x1F]
  | .jpNn nn => [0xC3, loByte nn, hiByte nn]
  | .jpCNn cc nn => [0xC2 ||| cc.code <<< 3, loByte nn, hiByte nn]
  | .jrE e => [0x18, e]
  | .jrCE cc e => [0x20 ||| cc.code <<< 3, e]
  | .jpIndHl => [0xE9]
  | .djnzE e => [0x10, e]
  | .callNn nn => [0xCD, loByte nn, hiByte nn]
  | .callCNn cc nn => [0xC4 ||| cc.code <<< 3, loByte nn, hiByte nn]
  | .ret => [0xC9]
  | .retC cc => [0xC0 ||| cc.code <<< 3]
  | .rstP t => [0xC7 ||| bitCode t <<< 3]
  | .nop => [0x00]
  | .halt => [0x76]
  | .di => [0xF3]
  | .ei => [0xFB]
  | .inAIndN n => [0xDB, n]
  | .outIndNA n => [0xD3, n]
  | .rlcR r => [0xCB, 0x00 ||| r.code]
  | .rlcIndHl => [0xCB, 0x06]
  | .rrcR r => [0xCB, 0x08 ||| r.code]
  | .rrcIndHl => [0xCB, 0x0E]
  | .rlR r => [0xCB, 0x10 ||| r.code]
  | .rlIndHl => [0xCB, 0x16]
  | .rrR r => [0xCB, 0x18 ||| r.code]
  | .rrIndHl => [0xCB, 0x1E]
  | .slaR r => [0xCB, 0x20 ||| r.code]
  | .slaIndHl => [0xCB, 0x26]
  | .sraR r => [0xCB, 0x28 ||| r.code]
  | .sraIndHl => [0xCB, 0x2E]
  | .sllR r => [0xCB, 0x30 ||| r.code]
  | .sllIndHl => [0xCB, 0x36]
  | .srlR r => [0xCB, 0x38 ||| r.code]
  | .srlIndHl => [0xCB, 0x3E]
  | .bitBR b r => [0xCB, 0x40 ||| r.code ||| bitCode b <<< 3]
  | .bitBIndHl b => [0xCB, 0x46 ||| bitCode b <<< 3]
  | .setBR b r => [0xCB, 0xC0 ||| r.code ||| bitCode b <<< 3]
  | .setBIndHl b => [0xCB, 0xC6 ||| bitCode b <<< 3]
  | .resBR b r => [0xCB, 0x80 ||| r.code ||| bitCode b <<< 3]
  | .resBIndHl b => [0xCB, 0x86 ||| bitCode b <<< 3]
  | .inRIndC r => [0xED, 0x40 ||| r.code <<< 3]
  | .outIndCR r => [0xED, 0x41 ||| r.code <<< 3]
  | .sbcHlSs p => [0xED, 0x42 ||| p.code <<< 4]
  | .adcHlSs p => [0xED, 0x4A ||| p.code <<< 4]
  | .ldIndNnDd p nn => [0xED, 0x43 ||| p.code <<< 4, loByte nn, hiByte nn]
  | .ldDdIndNn p nn => [0xED, 0x4B ||| p.code <<< 4, loByte nn, hiByte nn]
  | .neg => [0xED, 0x44]
  | .retn => [0xED, 0x45]
  | .reti => [0xED, 0x4D]
  | .im0 => [0xED, 0x46]
  | .im1 => [0xED, 0x56]
  | .im2 => [0xED, 0x5E]
  | .ldIA => [0xED, 0x47]
  | .ldRA => [0xED, 0x4F]
  | .ldAI => [0xED, 0x57]
  | .ldAR => [0xED, 0x5F]
  | .rrd => [0xED, 0x67]
  | .rld => [0xED, 0x6F]
  | .ldi => [0xED, 0xA0]
  | .ldir => [0xED, 0xB0]
  | .ldd => [0xED, 0xA8]
  | .lddr => [0xED, 0xB8]
  | .cpi => [0xED, 0xA1]
  | .cpir => [0xED, 0xB1]
  | .cpd => [0xED, 0xA9]
  | .cpdr => [0xED, 0xB9]
  | .ini => [0xED, 0xA2]
  | .inir => [0xED, 0xB2]
  | .ind => [0xED, 0xAA]
  | .indr => [0xED, 0xBA]
  | .outi => [0xED, 0xA3]
  | .otir => [0xED, 0xB3]
  | .outd => [0xED, 0xAB]
  | .otdr => [0xED, 0xBB]
  | .unrecEd op => [0xED, op]
  | .ldIxNn nn => [0xDD, 0x21, loByte nn, hiByte nn]
  | .ldIxIndNn nn => [0xDD, 0x2A, loByte nn, hiByte nn]
  | .ldIndNnIx nn => [0xDD, 0x22, loByte nn, hiByte nn]
  | .ldSpIx => [0xDD, 0xF9]
  | .pushIx => [0xDD, 0xE5]
  | .popIx => [0xDD, 0xE1]
  | .exIndSpIx => [0xDD, 0xE3]
  | .addIxPp pp => [0xDD, 0x09 ||| pp.code <<< 4]
  | .incIx => [0xDD, 0x23]
  | .decIx => [0xDD, 0x2B]
  | .jpIndIx => [0xDD, 0xE9]
  | .ldRIndIxD r d => [0xDD, 0x46 ||| r.code <<< 3, d]
  | .ldIndIxDR d r' => [0xDD, 0x70 ||| r'.code, d]
  | .ldIndIxDN d n => [0xDD, 0x36, d, n]
  | .addAIndIxD d => [0xDD, 0x86, d]
  | .adcAIndIxD d => [0xDD, 0x8E, d]
  | .subIndIxD d => [0xDD, 0x96, d]
  | .sbcAIndIxD d => [0xDD, 0x9E, d]
  | .andIndIxD d => [0xDD, 0xA6, d]
  | .xorIndIxD d => [0xDD, 0xAE, d]
  | .orIndIxD d => [0xDD, 0xB6, d]
  | .cpIndIxD d => [0xDD, 0xBE, d]
  | .incIndIxD d => [0xDD, 0x34, d]
  | .decIndIxD d => [0xDD, 0x35, d]
  | .rlcIndIxD d => [0xDD, 0xCB, d, 0x06]
  | .rrcIndIxD d => [0xDD, 0xCB, d, 0x0E]
  | .rlIndIxD d => [0xDD, 0xCB, d, 0x16]
  | .rrIndIxD d => [0xDD, 0xCB, d, 0x1E]
  | .slaIndIxD d => [0xDD, 0xCB, d, 0x26]
  | .sraIndIxD d => [0xDD, 0xCB, d, 0x2E]
  | .sllIndIxD d => [0xDD, 0xCB, d, 0x36]
  | .srlIndIxD d => [0xDD, 0xCB, d, 0x3E]
  | .rotIndIxDR o d r => [0xDD, 0xCB, d, 0x00 ||| r.code ||| o.code <<< 3]
  | .bitBIndIxD b d reg => [0xDD, 0xCB, d, 0x40 ||| reg.setWidth 8 ||| bitCode b <<< 3]
  | .resBIndIxD b d => [0xDD, 0xCB, d, 0x86 ||| bitCode b <<< 3]
  | .setBIndIxD b d => [0xDD, 0xCB, d, 0xC6 ||| bitCode b <<< 3]
  | .resBIndIxDR b d r => [0xDD, 0xCB, d, 0x80 ||| r.code ||| bitCode b <<< 3]
  | .setBIndIxDR b d r => [0xDD, 0xCB, d, 0xC0 ||| r.code ||| bitCode b <<< 3]
  | .ddOther op => [0xDD, op]
  | .unrecDd op => [0xDD, op]
  | .ldIyNn nn => [0xFD, 0x21, loByte nn, hiByte nn]
  | .ldIyIndNn nn => [0xFD, 0x2A, loByte nn, hiByte nn]
  | .ldIndNnIy nn => [0xFD, 0x22, loByte nn, hiByte nn]
  | .ldSpIy => [0xFD, 0xF9]
  | .pushIy => [0xFD, 0xE5]
  | .popIy => [0xFD, 0xE1]
  | .exIndSpIy => [0xFD, 0xE3]
  | .addIyPp pp => [0xFD, 0x09 ||| pp.code <<< 4]
  | .incIy => [0xFD, 0x23]
  | .decIy => [0xFD, 0x2B]
  | .jpIndIy => [0xFD, 0xE9]
  | .ldRIndIyD r d => [0xFD, 0x46 ||| r.code <<< 3, d]
  | .ldIndIyDR d r' => [0xFD, 0x70 ||| r'.code, d]
  | .ldIndIyDN d n => [0xFD, 0x36, d, n]
  | .addAIndIyD d => [0xFD, 0x86, d]
  | .adcAIndIyD d => [0xFD, 0x8E, d]
  | .subIndIyD d => [0xFD, 0x96, d]
  | .sbcAIndIyD d => [0xFD, 0x9E, d]
  | .andIndIyD d => [0xFD, 0xA6, d]
  | .xorIndIyD d => [0xFD, 0xAE, d]
  | .orIndIyD d => [0xFD, 0xB6, d]
  | .cpIndIyD d => [0xFD, 0xBE, d]
  | .incIndIyD d => [0xFD, 0x34, d]
  | .decIndIyD d => [0xFD, 0x35, d]
  | .rlcIndIyD d => [0xFD, 0xCB, d, 0x06]
  | .rrcIndIyD d => [0xFD, 0xCB, d, 0x0E]
  | .rlIndIyD d => [0xFD, 0xCB, d, 0x16]
  | .rrIndIyD d => [0xFD, 0xCB, d, 0x1E]
  | .slaIndIyD d => [0xFD, 0xCB, d, 0x26]
  | .sraIndIyD d => [0xFD, 0xCB, d, 0x2E]
  | .sllIndIyD d => [0xFD, 0xCB, d, 0x36]
  | .srlIndIyD d => [0xFD, 0xCB, d, 0x3E]
  | .rotIndIyDR o d r => [0xFD, 0xCB, d, 0x00 ||| r.code ||| o.code <<< 3]
  | .bitBIndIyD b d reg => [0xFD, 0xCB, d, 0x40 ||| reg.setWidth 8 ||| bitCode b <<< 3]
  | .resBIndIyD b d => [0xFD, 0xCB, d, 0x86 ||| bitCode b <<< 3]
  | .setBIndIyD b d => [0xFD, 0xCB, d, 0xC6 ||| bitCode b <<< 3]
  | .resBIndIyDR b d r => [0xFD, 0xCB, d, 0x80 ||| r.code ||| bitCode b <<< 3]
  | .setBIndIyDR b d r => [0xFD, 0xCB, d, 0xC0 ||| r.code ||| bitCode b <<< 3]
  | .fdOther op => [0xFD, op]
  | .unrecFd op => [0xFD, op]

end Sys2Proof
end

