-- ==== Sys2Proof/Machine/Load.lean ====
section
/-! DEFINITION. The 8-bit and 16-bit loads, the stack and the exchanges of the root table (41_load_exchange.md).  Here and in the other
families PC is already past the instruction's bytes (`PCnext`, R38) when a meaning starts. -/

namespace Sys2Proof.Machine

/-- `LD r,r'` (R200). -/
def execLdRR (r : Reg8) (r' : Reg8) (s : State) : Out := .next ((s.setReg r (s.reg r')).spend 200 4)

/-- `LD r,n` (R201). -/
def execLdRN (r : Reg8) (n : Byte) (s : State) : Out := .next ((s.setReg r n).spend 201 7)

/-- `LD r,(HL)`, read with the old HL (R202). -/
def execLdRIndHl (r : Reg8) (s : State) : Out := .next ((s.setReg r (s.read8 s.hl)).spend 202 7)

/-- `LD (HL),r` (R203). -/
def execLdIndHlR (r' : Reg8) (s : State) : Out := .next ((s.write8 s.hl (s.reg r')).spend 203 7)

/-- `LD (HL),n` (R204). -/
def execLdIndHlN (n : Byte) (s : State) : Out := .next ((s.write8 s.hl n).spend 204 10)

/-- `LD A,(BC)` (R205). -/
def execLdAIndBc (s : State) : Out := .next ({ s with a := s.read8 s.bc }.spend 205 7)

/-- `LD A,(DE)` (R206). -/
def execLdAIndDe (s : State) : Out := .next ({ s with a := s.read8 s.de }.spend 206 7)

/-- `LD A,(nn)` (R207). -/
def execLdAIndNn (nn : Word) (s : State) : Out := .next ({ s with a := s.read8 nn }.spend 207 13)

/-- `LD (BC),A` (R208). -/
def execLdIndBcA (s : State) : Out := .next ((s.write8 s.bc s.a).spend 208 7)

/-- `LD (DE),A` (R209). -/
def execLdIndDeA (s : State) : Out := .next ((s.write8 s.de s.a).spend 209 7)

/-- `LD (nn),A` (R210). -/
def execLdIndNnA (nn : Word) (s : State) : Out := .next ((s.write8 nn s.a).spend 210 13)

/-- `LD dd,nn` (R211). -/
def execLdDdNn (p : Pair) (nn : Word) (s : State) : Out := .next ((s.setPair p nn).spend 211 10)

/-- `LD HL,(nn)` (R212). -/
def execLdHlIndNn (nn : Word) (s : State) : Out := .next ((s.setHl (s.read16 nn)).spend 212 16)

/-- `LD (nn),HL` (R213). -/
def execLdIndNnHl (nn : Word) (s : State) : Out := .next ((s.write16 nn s.hl).spend 213 16)

/-- `LD SP,HL` (R214). -/
def execLdSpHl (s : State) : Out := .next ({ s with sp := s.hl }.spend 214 6)

/-- `PUSH qq` (R215). -/
def execPushQq (q : StackPair) (s : State) : Out := .next ((s.push16 (s.stackPair q)).spend 215 11)

/-- `POP qq`; POP AF writes all of F (R216). -/
def execPopQq (q : StackPair) (s : State) : Out := .next ((s.pop16.setStackPair q s.popped).spend 216 10)

/-- `EX DE,HL` (R217). -/
def execExDeHl (s : State) : Out := .next (((s.setDe s.hl).setHl s.de).spend 217 4)

/-- `EX AF,AF'` (R218). -/
def execExAfAf (s : State) : Out := .next ({ s with a := s.a', f := s.f', a' := s.a, f' := s.f }.spend 218 4)

/-- `EXX` (R219). -/
def execExx (s : State) : Out :=
  .next ({ s with
    b := s.b', c := s.c', d := s.d', e := s.e', h := s.h', l := s.l'
    b' := s.b, c' := s.c, d' := s.d, e' := s.e, h' := s.h, l' := s.l }.spend 219 4)

/-- `EX (SP),HL` (R220). -/
def execExIndSpHl (s : State) : Out := .next (((s.exchangeTop s.hl).setHl s.popped).spend 220 19)

end Sys2Proof.Machine
end

