-- ==== Sys2Proof/Machine/Fallback.lean ====
section
/-! DEFINITION. The second bytes after DD and FD outside the indexed subset (46_index.md section 8): OTHER_SET, which
`P_DDFD_OTHER` decides (R470), and the UNRECOGNISED class (R471). -/

namespace Sys2Proof.Machine

/-- The root instruction of an OTHER_SET byte (R470): the root rules that do not touch H, L, HL or (HL).  Any other
instruction, which no byte of OTHER_SET decodes to, halts the core (log entry 17). -/
def execRootOther (i : Instr) (s : State) : Out :=
  match i with
  | .ldRR r r' => execLdRR r r' s
  | .ldRN r n => execLdRN r n s
  | .ldAIndBc => execLdAIndBc s
  | .ldAIndDe => execLdAIndDe s
  | .ldAIndNn nn => execLdAIndNn nn s
  | .ldIndBcA => execLdIndBcA s
  | .ldIndDeA => execLdIndDeA s
  | .ldIndNnA nn => execLdIndNnA nn s
  | .ldDdNn p nn => execLdDdNn p nn s
  | .pushQq q => execPushQq q s
  | .popQq q => execPopQq q s
  | .exAfAf => execExAfAf s
  | .addAR r => execAddAR r s
  | .addAN n => execAddAN n s
  | .adcAR r => execAdcAR r s
  | .adcAN n => execAdcAN n s
  | .subR r => execSubR r s
  | .subN n => execSubN n s
  | .sbcAR r => execSbcAR r s
  | .sbcAN n => execSbcAN n s
  | .andR r => execAndR r s
  | .andN n => execAndN n s
  | .xorR r => execXorR r s
  | .xorN n => execXorN n s
  | .orR r => execOrR r s
  | .orN n => execOrN n s
  | .cpR r => execCpR r s
  | .cpN n => execCpN n s
  | .incR r => execIncR r s
  | .decR r => execDecR r s
  | .daa => execDaa s
  | .cpl => execCpl s
  | .scf => execScf s
  | .ccf => execCcf s
  | .incSs p => execIncSs p s
  | .decSs p => execDecSs p s
  | .rlca => execRlca s
  | .rla => execRla s
  | .rrca => execRrca s
  | .rra => execRra s
  | .jpNn nn => execJpNn nn s
  | .jpCNn cc nn => execJpCNn cc nn s
  | .jrE e => execJrE e s
  | .jrCE cc e => execJrCE cc e s
  | .djnzE e => execDjnzE e s
  | .callNn nn => execCallNn nn s
  | .callCNn cc nn => execCallCNn cc nn s
  | .ret => execRet s
  | .retC cc => execRetC cc s
  | .rstP t => execRstP t s
  | .nop => execNop s
  | .halt => execHalt s
  | .di => execDi s
  | .ei => execEi s
  | .inAIndN n => execInAIndN n s
  | .outIndNA n => execOutIndNA n s
  | _ => .next s.unrecognised

/-- The root instruction of `op` with its operand bytes at PC (R470, R81); none for a prefix byte. -/
def State.rootAfterPrefix (s : State) (op : Byte) : Option Instr := decodeRoot op (s.read8 s.pc) (s.read8 (s.pc + 1))

/-- The 4 T-states of the ignored prefix: `⌈(4 + t)/4⌉` is one more than `⌈t/4⌉` (R470; log entry 15). -/
def withPrefixCost : Out → Out
  | .next t => .next (t.wait 4)
  | .fault r => .fault r
  | .refused r => .refused r

/-- A DD or FD before a byte of OTHER_SET (R470): `UNRECOGNISED` halts with PC past the two bytes; `ROOT` fetches the
operand bytes and executes the root rule as if the prefix were absent, for 4 more T-states. -/
def execOther (op : Byte) (s : State) : Out :=
  match s.cfg.ddfdOther with
  | .unrecognised => .next s.unrecognised
  | .root =>
    match s.rootAfterPrefix op with
    | some i => withPrefixCost (execRootOther i { s with pc := s.pc + BitVec.ofNat 16 (i.length - 1) })
    | none => .next s.unrecognised

/-- DD before a byte of OTHER_SET (R470). -/
def execDdOther (op : Byte) (s : State) : Out := execOther op s

/-- DD before a byte of the UNRECOGNISED class halts the core (R471). -/
def execUnrecDd (_op : Byte) (s : State) : Out := .next s.unrecognised

/-- FD before a byte of OTHER_SET (R470). -/
def execFdOther (op : Byte) (s : State) : Out := execOther op s

/-- FD before a byte of the UNRECOGNISED class halts the core (R471). -/
def execUnrecFd (_op : Byte) (s : State) : Out := .next s.unrecognised

end Sys2Proof.Machine
end

