-- ==== Sys2Proof/Machine/Index.lean ====
section
/-! DEFINITION. The indexed forms of the DD (IX) and FD (IY) families (46_index.md sections 2-6).  The two prefixes share every operation. -/

namespace Sys2Proof.Machine

/-! ## IX forms -/

/-- `LD IX,nn` (R432). -/
def execLdIxNn (nn : Word) (s : State) : Out := .next ((s.setIndex .ix nn).spend 432 14)

/-- `LD IX,(nn)` (R433). -/
def execLdIxIndNn (nn : Word) (s : State) : Out := .next ((s.setIndex .ix (s.read16 nn)).spend 433 20)

/-- `LD (nn),IX` (R434). -/
def execLdIndNnIx (nn : Word) (s : State) : Out := .next ((s.write16 nn (s.index .ix)).spend 434 20)

/-- `LD SP,IX` (R435). -/
def execLdSpIx (s : State) : Out := .next ({ s with sp := s.index .ix }.spend 435 10)

/-- `PUSH IX` (R436). -/
def execPushIx (s : State) : Out := .next ((s.push16 (s.index .ix)).spend 436 15)

/-- `POP IX` (R437). -/
def execPopIx (s : State) : Out := .next ((s.pop16.setIndex .ix s.popped).spend 437 14)

/-- `EX (SP),IX` (R438). -/
def execExIndSpIx (s : State) : Out := .next (((s.exchangeTop (s.index .ix)).setIndex .ix s.popped).spend 438 23)

/-- `ADD IX,pp` (R439). -/
def execAddIxPp (pp : IndexPair) (s : State) : Out :=
  .next ((s.toIndex .ix (add16 s.f (s.index .ix) (s.indexPair .ix pp))).spend 439 15)

/-- `INC IX` (R440). -/
def execIncIx (s : State) : Out := .next ((s.setIndex .ix (s.index .ix + 1)).spend 440 10)

/-- `DEC IX` (R441). -/
def execDecIx (s : State) : Out := .next ((s.setIndex .ix (s.index .ix - 1)).spend 441 10)

/-- `JP (IX)`: PC takes the value of IX (R442). -/
def execJpIndIx (s : State) : Out := .next ((s.jump (s.index .ix)).spend 442 8)

/-- `LD r,(IX+d)` (R443). -/
def execLdRIndIxD (r : Reg8) (d : Byte) (s : State) : Out := .next ((s.setReg r (s.read8 (s.ea .ix d))).spend 443 19)

/-- `LD (IX+d),r` (R444). -/
def execLdIndIxDR (d : Byte) (r' : Reg8) (s : State) : Out := .next ((s.write8 (s.ea .ix d) (s.reg r')).spend 444 19)

/-- `LD (IX+d),n` (R445). -/
def execLdIndIxDN (d : Byte) (n : Byte) (s : State) : Out := .next ((s.write8 (s.ea .ix d) n).spend 445 19)

/-- `ADD A,(IX+d)` (R446). -/
def execAddAIndIxD (d : Byte) (s : State) : Out :=
  .next ((s.toAcc (add8 s.f s.a (s.read8 (s.ea .ix d)) false)).spend 446 19)

/-- `ADC A,(IX+d)` (R447). -/
def execAdcAIndIxD (d : Byte) (s : State) : Out :=
  .next ((s.toAcc (add8 s.f s.a (s.read8 (s.ea .ix d)) (flagC s.f))).spend 447 19)

/-- `SUB (IX+d)` (R448). -/
def execSubIndIxD (d : Byte) (s : State) : Out :=
  .next ((s.toAcc (sub8 s.f s.a (s.read8 (s.ea .ix d)) false)).spend 448 19)

/-- `SBC A,(IX+d)` (R449). -/
def execSbcAIndIxD (d : Byte) (s : State) : Out :=
  .next ((s.toAcc (sub8 s.f s.a (s.read8 (s.ea .ix d)) (flagC s.f))).spend 449 19)

/-- `AND (IX+d)` (R450). -/
def execAndIndIxD (d : Byte) (s : State) : Out := .next ((s.toAcc (and8 s.f s.a (s.read8 (s.ea .ix d)))).spend 450 19)

/-- `XOR (IX+d)` (R451). -/
def execXorIndIxD (d : Byte) (s : State) : Out := .next ((s.toAcc (xor8 s.f s.a (s.read8 (s.ea .ix d)))).spend 451 19)

/-- `OR (IX+d)` (R452). -/
def execOrIndIxD (d : Byte) (s : State) : Out := .next ((s.toAcc (or8 s.f s.a (s.read8 (s.ea .ix d)))).spend 452 19)

/-- `CP (IX+d)` (R453). -/
def execCpIndIxD (d : Byte) (s : State) : Out :=
  .next ((s.toFlags (sub8 s.f s.a (s.read8 (s.ea .ix d)) false)).spend 453 19)

/-- `INC (IX+d)` (R454). -/
def execIncIndIxD (d : Byte) (s : State) : Out :=
  .next ((s.toMem (s.ea .ix d) (inc8 s.f (s.read8 (s.ea .ix d)))).spend 454 23)

/-- `DEC (IX+d)` (R455). -/
def execDecIndIxD (d : Byte) (s : State) : Out :=
  .next ((s.toMem (s.ea .ix d) (dec8 s.f (s.read8 (s.ea .ix d)))).spend 455 23)

/-! ## IY forms -/

/-- `LD IY,nn` (R432). -/
def execLdIyNn (nn : Word) (s : State) : Out := .next ((s.setIndex .iy nn).spend 432 14)

/-- `LD IY,(nn)` (R433). -/
def execLdIyIndNn (nn : Word) (s : State) : Out := .next ((s.setIndex .iy (s.read16 nn)).spend 433 20)

/-- `LD (nn),IY` (R434). -/
def execLdIndNnIy (nn : Word) (s : State) : Out := .next ((s.write16 nn (s.index .iy)).spend 434 20)

/-- `LD SP,IY` (R435). -/
def execLdSpIy (s : State) : Out := .next ({ s with sp := s.index .iy }.spend 435 10)

/-- `PUSH IY` (R436). -/
def execPushIy (s : State) : Out := .next ((s.push16 (s.index .iy)).spend 436 15)

/-- `POP IY` (R437). -/
def execPopIy (s : State) : Out := .next ((s.pop16.setIndex .iy s.popped).spend 437 14)

/-- `EX (SP),IY` (R438). -/
def execExIndSpIy (s : State) : Out := .next (((s.exchangeTop (s.index .iy)).setIndex .iy s.popped).spend 438 23)

/-- `ADD IY,pp` (R439). -/
def execAddIyPp (pp : IndexPair) (s : State) : Out :=
  .next ((s.toIndex .iy (add16 s.f (s.index .iy) (s.indexPair .iy pp))).spend 439 15)

/-- `INC IY` (R440). -/
def execIncIy (s : State) : Out := .next ((s.setIndex .iy (s.index .iy + 1)).spend 440 10)

/-- `DEC IY` (R441). -/
def execDecIy (s : State) : Out := .next ((s.setIndex .iy (s.index .iy - 1)).spend 441 10)

/-- `JP (IY)`: PC takes the value of IY (R442). -/
def execJpIndIy (s : State) : Out := .next ((s.jump (s.index .iy)).spend 442 8)

/-- `LD r,(IY+d)` (R443). -/
def execLdRIndIyD (r : Reg8) (d : Byte) (s : State) : Out := .next ((s.setReg r (s.read8 (s.ea .iy d))).spend 443 19)

/-- `LD (IY+d),r` (R444). -/
def execLdIndIyDR (d : Byte) (r' : Reg8) (s : State) : Out := .next ((s.write8 (s.ea .iy d) (s.reg r')).spend 444 19)

/-- `LD (IY+d),n` (R445). -/
def execLdIndIyDN (d : Byte) (n : Byte) (s : State) : Out := .next ((s.write8 (s.ea .iy d) n).spend 445 19)

/-- `ADD A,(IY+d)` (R446). -/
def execAddAIndIyD (d : Byte) (s : State) : Out :=
  .next ((s.toAcc (add8 s.f s.a (s.read8 (s.ea .iy d)) false)).spend 446 19)

/-- `ADC A,(IY+d)` (R447). -/
def execAdcAIndIyD (d : Byte) (s : State) : Out :=
  .next ((s.toAcc (add8 s.f s.a (s.read8 (s.ea .iy d)) (flagC s.f))).spend 447 19)

/-- `SUB (IY+d)` (R448). -/
def execSubIndIyD (d : Byte) (s : State) : Out :=
  .next ((s.toAcc (sub8 s.f s.a (s.read8 (s.ea .iy d)) false)).spend 448 19)

/-- `SBC A,(IY+d)` (R449). -/
def execSbcAIndIyD (d : Byte) (s : State) : Out :=
  .next ((s.toAcc (sub8 s.f s.a (s.read8 (s.ea .iy d)) (flagC s.f))).spend 449 19)

/-- `AND (IY+d)` (R450). -/
def execAndIndIyD (d : Byte) (s : State) : Out := .next ((s.toAcc (and8 s.f s.a (s.read8 (s.ea .iy d)))).spend 450 19)

/-- `XOR (IY+d)` (R451). -/
def execXorIndIyD (d : Byte) (s : State) : Out := .next ((s.toAcc (xor8 s.f s.a (s.read8 (s.ea .iy d)))).spend 451 19)

/-- `OR (IY+d)` (R452). -/
def execOrIndIyD (d : Byte) (s : State) : Out := .next ((s.toAcc (or8 s.f s.a (s.read8 (s.ea .iy d)))).spend 452 19)

/-- `CP (IY+d)` (R453). -/
def execCpIndIyD (d : Byte) (s : State) : Out :=
  .next ((s.toFlags (sub8 s.f s.a (s.read8 (s.ea .iy d)) false)).spend 453 19)

/-- `INC (IY+d)` (R454). -/
def execIncIndIyD (d : Byte) (s : State) : Out :=
  .next ((s.toMem (s.ea .iy d) (inc8 s.f (s.read8 (s.ea .iy d)))).spend 454 23)

/-- `DEC (IY+d)` (R455). -/
def execDecIndIyD (d : Byte) (s : State) : Out :=
  .next ((s.toMem (s.ea .iy d) (dec8 s.f (s.read8 (s.ea .iy d)))).spend 455 23)

end Sys2Proof.Machine
end

