-- ==== Sys2Proof/Machine/IndexCb.lean ====
section
/-! DEFINITION. The DD CB and FD CB families (46_index.md section 7): every form but BIT also writes the result back to memory (R464). -/

namespace Sys2Proof.Machine

/-! ## IX forms -/

/-- `RLC (IX+d)` (R456). -/
def execRlcIndIxD (d : Byte) (s : State) : Out :=
  .next ((s.toMem (s.ea .ix d) (shift8 .rlc s.f (s.read8 (s.ea .ix d)))).spend 456 23)

/-- `RRC (IX+d)` (R457). -/
def execRrcIndIxD (d : Byte) (s : State) : Out :=
  .next ((s.toMem (s.ea .ix d) (shift8 .rrc s.f (s.read8 (s.ea .ix d)))).spend 457 23)

/-- `RL (IX+d)` (R458). -/
def execRlIndIxD (d : Byte) (s : State) : Out :=
  .next ((s.toMem (s.ea .ix d) (shift8 .rl s.f (s.read8 (s.ea .ix d)))).spend 458 23)

/-- `RR (IX+d)` (R459). -/
def execRrIndIxD (d : Byte) (s : State) : Out :=
  .next ((s.toMem (s.ea .ix d) (shift8 .rr s.f (s.read8 (s.ea .ix d)))).spend 459 23)

/-- `SLA (IX+d)` (R460). -/
def execSlaIndIxD (d : Byte) (s : State) : Out :=
  .next ((s.toMem (s.ea .ix d) (shift8 .sla s.f (s.read8 (s.ea .ix d)))).spend 460 23)

/-- `SRA (IX+d)` (R461). -/
def execSraIndIxD (d : Byte) (s : State) : Out :=
  .next ((s.toMem (s.ea .ix d) (shift8 .sra s.f (s.read8 (s.ea .ix d)))).spend 461 23)

/-- `SLL (IX+d)` (R462). -/
def execSllIndIxD (d : Byte) (s : State) : Out :=
  .next ((s.toMem (s.ea .ix d) (shift8 .sll s.f (s.read8 (s.ea .ix d)))).spend 462 23)

/-- `SRL (IX+d)` (R463). -/
def execSrlIndIxD (d : Byte) (s : State) : Out :=
  .next ((s.toMem (s.ea .ix d) (shift8 .srl s.f (s.read8 (s.ea .ix d)))).spend 463 23)

/-- `<rot> (IX+d) -> r`: memory and the register get the result (R464). -/
def execRotIndIxDR (o : Rot) (d : Byte) (r : Reg8) (s : State) : Out :=
  let p := shift8 o s.f (s.read8 (s.ea .ix d))
  .next (((s.toMem (s.ea .ix d) p).setReg r p.1).spend 464 23)

/-- `BIT b,(IX+d)`; the register field is ignored (R465). -/
def execBitBIndIxD (b : Fin 8) (d : Byte) (_reg : BitVec 3) (s : State) : Out :=
  .next ((s.testBit (s.read8 (s.ea .ix d)) b).spend 465 20)

/-- `RES b,(IX+d)` (R466). -/
def execResBIndIxD (b : Fin 8) (d : Byte) (s : State) : Out :=
  .next ((s.write8 (s.ea .ix d) (resBit (s.read8 (s.ea .ix d)) b)).spend 466 23)

/-- `SET b,(IX+d)` (R467). -/
def execSetBIndIxD (b : Fin 8) (d : Byte) (s : State) : Out :=
  .next ((s.write8 (s.ea .ix d) (setBit (s.read8 (s.ea .ix d)) b)).spend 467 23)

/-- `RES b,(IX+d) -> r` (R468). -/
def execResBIndIxDR (b : Fin 8) (d : Byte) (r : Reg8) (s : State) : Out :=
  let v := resBit (s.read8 (s.ea .ix d)) b
  .next (((s.write8 (s.ea .ix d) v).setReg r v).spend 468 23)

/-- `SET b,(IX+d) -> r` (R469). -/
def execSetBIndIxDR (b : Fin 8) (d : Byte) (r : Reg8) (s : State) : Out :=
  let v := setBit (s.read8 (s.ea .ix d)) b
  .next (((s.write8 (s.ea .ix d) v).setReg r v).spend 469 23)

/-! ## IY forms -/

/-- `RLC (IY+d)` (R456). -/
def execRlcIndIyD (d : Byte) (s : State) : Out :=
  .next ((s.toMem (s.ea .iy d) (shift8 .rlc s.f (s.read8 (s.ea .iy d)))).spend 456 23)

/-- `RRC (IY+d)` (R457). -/
def execRrcIndIyD (d : Byte) (s : State) : Out :=
  .next ((s.toMem (s.ea .iy d) (shift8 .rrc s.f (s.read8 (s.ea .iy d)))).spend 457 23)

/-- `RL (IY+d)` (R458). -/
def execRlIndIyD (d : Byte) (s : State) : Out :=
  .next ((s.toMem (s.ea .iy d) (shift8 .rl s.f (s.read8 (s.ea .iy d)))).spend 458 23)

/-- `RR (IY+d)` (R459). -/
def execRrIndIyD (d : Byte) (s : State) : Out :=
  .next ((s.toMem (s.ea .iy d) (shift8 .rr s.f (s.read8 (s.ea .iy d)))).spend 459 23)

/-- `SLA (IY+d)` (R460). -/
def execSlaIndIyD (d : Byte) (s : State) : Out :=
  .next ((s.toMem (s.ea .iy d) (shift8 .sla s.f (s.read8 (s.ea .iy d)))).spend 460 23)

/-- `SRA (IY+d)` (R461). -/
def execSraIndIyD (d : Byte) (s : State) : Out :=
  .next ((s.toMem (s.ea .iy d) (shift8 .sra s.f (s.read8 (s.ea .iy d)))).spend 461 23)

/-- `SLL (IY+d)` (R462). -/
def execSllIndIyD (d : Byte) (s : State) : Out :=
  .next ((s.toMem (s.ea .iy d) (shift8 .sll s.f (s.read8 (s.ea .iy d)))).spend 462 23)

/-- `SRL (IY+d)` (R463). -/
def execSrlIndIyD (d : Byte) (s : State) : Out :=
  .next ((s.toMem (s.ea .iy d) (shift8 .srl s.f (s.read8 (s.ea .iy d)))).spend 463 23)

/-- `<rot> (IY+d) -> r`: memory and the register get the result (R464). -/
def execRotIndIyDR (o : Rot) (d : Byte) (r : Reg8) (s : State) : Out :=
  let p := shift8 o s.f (s.read8 (s.ea .iy d))
  .next (((s.toMem (s.ea .iy d) p).setReg r p.1).spend 464 23)

/-- `BIT b,(IY+d)`; the register field is ignored (R465). -/
def execBitBIndIyD (b : Fin 8) (d : Byte) (_reg : BitVec 3) (s : State) : Out :=
  .next ((s.testBit (s.read8 (s.ea .iy d)) b).spend 465 20)

/-- `RES b,(IY+d)` (R466). -/
def execResBIndIyD (b : Fin 8) (d : Byte) (s : State) : Out :=
  .next ((s.write8 (s.ea .iy d) (resBit (s.read8 (s.ea .iy d)) b)).spend 466 23)

/-- `SET b,(IY+d)` (R467). -/
def execSetBIndIyD (b : Fin 8) (d : Byte) (s : State) : Out :=
  .next ((s.write8 (s.ea .iy d) (setBit (s.read8 (s.ea .iy d)) b)).spend 467 23)

/-- `RES b,(IY+d) -> r` (R468). -/
def execResBIndIyDR (b : Fin 8) (d : Byte) (r : Reg8) (s : State) : Out :=
  let v := resBit (s.read8 (s.ea .iy d)) b
  .next (((s.write8 (s.ea .iy d) v).setReg r v).spend 468 23)

/-- `SET b,(IY+d) -> r` (R469). -/
def execSetBIndIyDR (b : Fin 8) (d : Byte) (r : Reg8) (s : State) : Out :=
  let v := setBit (s.read8 (s.ea .iy d)) b
  .next (((s.write8 (s.ea .iy d) v).setReg r v).spend 469 23)

end Sys2Proof.Machine
end

