-- ==== Sys2Proof/Machine/Dispatch.lean ====
section
/-! DEFINITION. One arm per instruction: the meaning of each. -/

namespace Sys2Proof.Machine

def exec (i : Instr) (s : State) : Host.Outcome State Fault Refusal :=
  match i with
  | .ldRR r r' => Sys2Proof.Machine.execLdRR r r' s
  | .ldRN r n => Sys2Proof.Machine.execLdRN r n s
  | .ldRIndHl r => Sys2Proof.Machine.execLdRIndHl r s
  | .ldIndHlR r' => Sys2Proof.Machine.execLdIndHlR r' s
  | .ldIndHlN n => Sys2Proof.Machine.execLdIndHlN n s
  | .ldAIndBc => Sys2Proof.Machine.execLdAIndBc s
  | .ldAIndDe => Sys2Proof.Machine.execLdAIndDe s
  | .ldAIndNn nn => Sys2Proof.Machine.execLdAIndNn nn s
  | .ldIndBcA => Sys2Proof.Machine.execLdIndBcA s
  | .ldIndDeA => Sys2Proof.Machine.execLdIndDeA s
  | .ldIndNnA nn => Sys2Proof.Machine.execLdIndNnA nn s
  | .ldDdNn p nn => Sys2Proof.Machine.execLdDdNn p nn s
  | .ldHlIndNn nn => Sys2Proof.Machine.execLdHlIndNn nn s
  | .ldIndNnHl nn => Sys2Proof.Machine.execLdIndNnHl nn s
  | .ldSpHl => Sys2Proof.Machine.execLdSpHl s
  | .pushQq q => Sys2Proof.Machine.execPushQq q s
  | .popQq q => Sys2Proof.Machine.execPopQq q s
  | .exDeHl => Sys2Proof.Machine.execExDeHl s
  | .exAfAf => Sys2Proof.Machine.execExAfAf s
  | .exx => Sys2Proof.Machine.execExx s
  | .exIndSpHl => Sys2Proof.Machine.execExIndSpHl s
  | .addAR r => Sys2Proof.Machine.execAddAR r s
  | .addAN n => Sys2Proof.Machine.execAddAN n s
  | .addAIndHl => Sys2Proof.Machine.execAddAIndHl s
  | .adcAR r => Sys2Proof.Machine.execAdcAR r s
  | .adcAN n => Sys2Proof.Machine.execAdcAN n s
  | .adcAIndHl => Sys2Proof.Machine.execAdcAIndHl s
  | .subR r => Sys2Proof.Machine.execSubR r s
  | .subN n => Sys2Proof.Machine.execSubN n s
  | .subIndHl => Sys2Proof.Machine.execSubIndHl s
  | .sbcAR r => Sys2Proof.Machine.execSbcAR r s
  | .sbcAN n => Sys2Proof.Machine.execSbcAN n s
  | .sbcAIndHl => Sys2Proof.Machine.execSbcAIndHl s
  | .andR r => Sys2Proof.Machine.execAndR r s
  | .andN n => Sys2Proof.Machine.execAndN n s
  | .andIndHl => Sys2Proof.Machine.execAndIndHl s
  | .xorR r => Sys2Proof.Machine.execXorR r s
  | .xorN n => Sys2Proof.Machine.execXorN n s
  | .xorIndHl => Sys2Proof.Machine.execXorIndHl s
  | .orR r => Sys2Proof.Machine.execOrR r s
  | .orN n => Sys2Proof.Machine.execOrN n s
  | .orIndHl => Sys2Proof.Machine.execOrIndHl s
  | .cpR r => Sys2Proof.Machine.execCpR r s
  | .cpN n => Sys2Proof.Machine.execCpN n s
  | .cpIndHl => Sys2Proof.Machine.execCpIndHl s
  | .incR r => Sys2Proof.Machine.execIncR r s
  | .incIndHl => Sys2Proof.Machine.execIncIndHl s
  | .decR r => Sys2Proof.Machine.execDecR r s
  | .decIndHl => Sys2Proof.Machine.execDecIndHl s
  | .daa => Sys2Proof.Machine.execDaa s
  | .cpl => Sys2Proof.Machine.execCpl s
  | .scf => Sys2Proof.Machine.execScf s
  | .ccf => Sys2Proof.Machine.execCcf s
  | .addHlSs p => Sys2Proof.Machine.execAddHlSs p s
  | .incSs p => Sys2Proof.Machine.execIncSs p s
  | .decSs p => Sys2Proof.Machine.execDecSs p s
  | .rlca => Sys2Proof.Machine.execRlca s
  | .rla => Sys2Proof.Machine.execRla s
  | .rrca => Sys2Proof.Machine.execRrca s
  | .rra => Sys2Proof.Machine.execRra s
  | .jpNn nn => Sys2Proof.Machine.execJpNn nn s
  | .jpCNn cc nn => Sys2Proof.Machine.execJpCNn cc nn s
  | .jrE e => Sys2Proof.Machine.execJrE e s
  | .jrCE cc e => Sys2Proof.Machine.execJrCE cc e s
  | .jpIndHl => Sys2Proof.Machine.execJpIndHl s
  | .djnzE e => Sys2Proof.Machine.execDjnzE e s
  | .callNn nn => Sys2Proof.Machine.execCallNn nn s
  | .callCNn cc nn => Sys2Proof.Machine.execCallCNn cc nn s
  | .ret => Sys2Proof.Machine.execRet s
  | .retC cc => Sys2Proof.Machine.execRetC cc s
  | .rstP t => Sys2Proof.Machine.execRstP t s
  | .nop => Sys2Proof.Machine.execNop s
  | .halt => Sys2Proof.Machine.execHalt s
  | .di => Sys2Proof.Machine.execDi s
  | .ei => Sys2Proof.Machine.execEi s
  | .inAIndN n => Sys2Proof.Machine.execInAIndN n s
  | .outIndNA n => Sys2Proof.Machine.execOutIndNA n s
  | .rlcR r => Sys2Proof.Machine.execRlcR r s
  | .rlcIndHl => Sys2Proof.Machine.execRlcIndHl s
  | .rrcR r => Sys2Proof.Machine.execRrcR r s
  | .rrcIndHl => Sys2Proof.Machine.execRrcIndHl s
  | .rlR r => Sys2Proof.Machine.execRlR r s
  | .rlIndHl => Sys2Proof.Machine.execRlIndHl s
  | .rrR r => Sys2Proof.Machine.execRrR r s
  | .rrIndHl => Sys2Proof.Machine.execRrIndHl s
  | .slaR r => Sys2Proof.Machine.execSlaR r s
  | .slaIndHl => Sys2Proof.Machine.execSlaIndHl s
  | .sraR r => Sys2Proof.Machine.execSraR r s
  | .sraIndHl => Sys2Proof.Machine.execSraIndHl s
  | .sllR r => Sys2Proof.Machine.execSllR r s
  | .sllIndHl => Sys2Proof.Machine.execSllIndHl s
  | .srlR r => Sys2Proof.Machine.execSrlR r s
  | .srlIndHl => Sys2Proof.Machine.execSrlIndHl s
  | .bitBR b r => Sys2Proof.Machine.execBitBR b r s
  | .bitBIndHl b => Sys2Proof.Machine.execBitBIndHl b s
  | .setBR b r => Sys2Proof.Machine.execSetBR b r s
  | .setBIndHl b => Sys2Proof.Machine.execSetBIndHl b s
  | .resBR b r => Sys2Proof.Machine.execResBR b r s
  | .resBIndHl b => Sys2Proof.Machine.execResBIndHl b s
  | .inRIndC r => Sys2Proof.Machine.execInRIndC r s
  | .outIndCR r => Sys2Proof.Machine.execOutIndCR r s
  | .sbcHlSs p => Sys2Proof.Machine.execSbcHlSs p s
  | .adcHlSs p => Sys2Proof.Machine.execAdcHlSs p s
  | .ldIndNnDd p nn => Sys2Proof.Machine.execLdIndNnDd p nn s
  | .ldDdIndNn p nn => Sys2Proof.Machine.execLdDdIndNn p nn s
  | .neg => Sys2Proof.Machine.execNeg s
  | .retn => Sys2Proof.Machine.execRetn s
  | .reti => Sys2Proof.Machine.execReti s
  | .im0 => Sys2Proof.Machine.execIm0 s
  | .im1 => Sys2Proof.Machine.execIm1 s
  | .im2 => Sys2Proof.Machine.execIm2 s
  | .ldIA => Sys2Proof.Machine.execLdIA s
  | .ldRA => Sys2Proof.Machine.execLdRA s
  | .ldAI => Sys2Proof.Machine.execLdAI s
  | .ldAR => Sys2Proof.Machine.execLdAR s
  | .rrd => Sys2Proof.Machine.execRrd s
  | .rld => Sys2Proof.Machine.execRld s
  | .ldi => Sys2Proof.Machine.execLdi s
  | .ldir => Sys2Proof.Machine.execLdir s
  | .ldd => Sys2Proof.Machine.execLdd s
  | .lddr => Sys2Proof.Machine.execLddr s
  | .cpi => Sys2Proof.Machine.execCpi s
  | .cpir => Sys2Proof.Machine.execCpir s
  | .cpd => Sys2Proof.Machine.execCpd s
  | .cpdr => Sys2Proof.Machine.execCpdr s
  | .ini => Sys2Proof.Machine.execIni s
  | .inir => Sys2Proof.Machine.execInir s
  | .ind => Sys2Proof.Machine.execInd s
  | .indr => Sys2Proof.Machine.execIndr s
  | .outi => Sys2Proof.Machine.execOuti s
  | .otir => Sys2Proof.Machine.execOtir s
  | .outd => Sys2Proof.Machine.execOutd s
  | .otdr => Sys2Proof.Machine.execOtdr s
  | .unrecEd op => Sys2Proof.Machine.execUnrecEd op s
  | .ldIxNn nn => Sys2Proof.Machine.execLdIxNn nn s
  | .ldIxIndNn nn => Sys2Proof.Machine.execLdIxIndNn nn s
  | .ldIndNnIx nn => Sys2Proof.Machine.execLdIndNnIx nn s
  | .ldSpIx => Sys2Proof.Machine.execLdSpIx s
  | .pushIx => Sys2Proof.Machine.execPushIx s
  | .popIx => Sys2Proof.Machine.execPopIx s
  | .exIndSpIx => Sys2Proof.Machine.execExIndSpIx s
  | .addIxPp pp => Sys2Proof.Machine.execAddIxPp pp s
  | .incIx => Sys2Proof.Machine.execIncIx s
  | .decIx => Sys2Proof.Machine.execDecIx s
  | .jpIndIx => Sys2Proof.Machine.execJpIndIx s
  | .ldRIndIxD r d => Sys2Proof.Machine.execLdRIndIxD r d s
  | .ldIndIxDR d r' => Sys2Proof.Machine.execLdIndIxDR d r' s
  | .ldIndIxDN d n => Sys2Proof.Machine.execLdIndIxDN d n s
  | .addAIndIxD d => Sys2Proof.Machine.execAddAIndIxD d s
  | .adcAIndIxD d => Sys2Proof.Machine.execAdcAIndIxD d s
  | .subIndIxD d => Sys2Proof.Machine.execSubIndIxD d s
  | .sbcAIndIxD d => Sys2Proof.Machine.execSbcAIndIxD d s
  | .andIndIxD d => Sys2Proof.Machine.execAndIndIxD d s
  | .xorIndIxD d => Sys2Proof.Machine.execXorIndIxD d s
  | .orIndIxD d => Sys2Proof.Machine.execOrIndIxD d s
  | .cpIndIxD d => Sys2Proof.Machine.execCpIndIxD d s
  | .incIndIxD d => Sys2Proof.Machine.execIncIndIxD d s
  | .decIndIxD d => Sys2Proof.Machine.execDecIndIxD d s
  | .rlcIndIxD d => Sys2Proof.Machine.execRlcIndIxD d s
  | .rrcIndIxD d => Sys2Proof.Machine.execRrcIndIxD d s
  | .rlIndIxD d => Sys2Proof.Machine.execRlIndIxD d s
  | .rrIndIxD d => Sys2Proof.Machine.execRrIndIxD d s
  | .slaIndIxD d => Sys2Proof.Machine.execSlaIndIxD d s
  | .sraIndIxD d => Sys2Proof.Machine.execSraIndIxD d s
  | .sllIndIxD d => Sys2Proof.Machine.execSllIndIxD d s
  | .srlIndIxD d => Sys2Proof.Machine.execSrlIndIxD d s
  | .rotIndIxDR o d r => Sys2Proof.Machine.execRotIndIxDR o d r s
  | .bitBIndIxD b d reg => Sys2Proof.Machine.execBitBIndIxD b d reg s
  | .resBIndIxD b d => Sys2Proof.Machine.execResBIndIxD b d s
  | .setBIndIxD b d => Sys2Proof.Machine.execSetBIndIxD b d s
  | .resBIndIxDR b d r => Sys2Proof.Machine.execResBIndIxDR b d r s
  | .setBIndIxDR b d r => Sys2Proof.Machine.execSetBIndIxDR b d r s
  | .ddOther op => Sys2Proof.Machine.execDdOther op s
  | .unrecDd op => Sys2Proof.Machine.execUnrecDd op s
  | .ldIyNn nn => Sys2Proof.Machine.execLdIyNn nn s
  | .ldIyIndNn nn => Sys2Proof.Machine.execLdIyIndNn nn s
  | .ldIndNnIy nn => Sys2Proof.Machine.execLdIndNnIy nn s
  | .ldSpIy => Sys2Proof.Machine.execLdSpIy s
  | .pushIy => Sys2Proof.Machine.execPushIy s
  | .popIy => Sys2Proof.Machine.execPopIy s
  | .exIndSpIy => Sys2Proof.Machine.execExIndSpIy s
  | .addIyPp pp => Sys2Proof.Machine.execAddIyPp pp s
  | .incIy => Sys2Proof.Machine.execIncIy s
  | .decIy => Sys2Proof.Machine.execDecIy s
  | .jpIndIy => Sys2Proof.Machine.execJpIndIy s
  | .ldRIndIyD r d => Sys2Proof.Machine.execLdRIndIyD r d s
  | .ldIndIyDR d r' => Sys2Proof.Machine.execLdIndIyDR d r' s
  | .ldIndIyDN d n => Sys2Proof.Machine.execLdIndIyDN d n s
  | .addAIndIyD d => Sys2Proof.Machine.execAddAIndIyD d s
  | .adcAIndIyD d => Sys2Proof.Machine.execAdcAIndIyD d s
  | .subIndIyD d => Sys2Proof.Machine.execSubIndIyD d s
  | .sbcAIndIyD d => Sys2Proof.Machine.execSbcAIndIyD d s
  | .andIndIyD d => Sys2Proof.Machine.execAndIndIyD d s
  | .xorIndIyD d => Sys2Proof.Machine.execXorIndIyD d s
  | .orIndIyD d => Sys2Proof.Machine.execOrIndIyD d s
  | .cpIndIyD d => Sys2Proof.Machine.execCpIndIyD d s
  | .incIndIyD d => Sys2Proof.Machine.execIncIndIyD d s
  | .decIndIyD d => Sys2Proof.Machine.execDecIndIyD d s
  | .rlcIndIyD d => Sys2Proof.Machine.execRlcIndIyD d s
  | .rrcIndIyD d => Sys2Proof.Machine.execRrcIndIyD d s
  | .rlIndIyD d => Sys2Proof.Machine.execRlIndIyD d s
  | .rrIndIyD d => Sys2Proof.Machine.execRrIndIyD d s
  | .slaIndIyD d => Sys2Proof.Machine.execSlaIndIyD d s
  | .sraIndIyD d => Sys2Proof.Machine.execSraIndIyD d s
  | .sllIndIyD d => Sys2Proof.Machine.execSllIndIyD d s
  | .srlIndIyD d => Sys2Proof.Machine.execSrlIndIyD d s
  | .rotIndIyDR o d r => Sys2Proof.Machine.execRotIndIyDR o d r s
  | .bitBIndIyD b d reg => Sys2Proof.Machine.execBitBIndIyD b d reg s
  | .resBIndIyD b d => Sys2Proof.Machine.execResBIndIyD b d s
  | .setBIndIyD b d => Sys2Proof.Machine.execSetBIndIyD b d s
  | .resBIndIyDR b d r => Sys2Proof.Machine.execResBIndIyDR b d r s
  | .setBIndIyDR b d r => Sys2Proof.Machine.execSetBIndIyDR b d r s
  | .fdOther op => Sys2Proof.Machine.execFdOther op s
  | .unrecFd op => Sys2Proof.Machine.execUnrecFd op s

end Sys2Proof.Machine
end

