-- ==== Sys2Proof/Machine/Cycle.lean ====
section
/-! DEFINITION. One step (60_exceptions.md R500-R503, R508): the sampled inputs, the choice among the services, the halted
no-op and the next instruction, and the fetch of that instruction (R81, R113). -/

namespace Sys2Proof.Machine

/-! ## Fetch -/

/-- The instruction at PC.  A fetch reads memory at that moment and has no side effect (R71, R81, R90), so reading the four
bytes an instruction may have shows nothing that fetching only its own bytes would not (log entry 20). -/
def State.fetched (s : State) : Instr :=
  decode4 (s.read8 s.pc) (s.read8 (s.pc + 1)) (s.read8 (s.pc + 2)) (s.read8 (s.pc + 3))

/-- The state once the bytes of an instruction are fetched: PC is PCnext (R38, R81). -/
def State.past (s : State) (i : Instr) : State := { s with pc := s.pc + BitVec.ofNat 16 i.length }

/-! ## Inputs -/

/-- The three inputs of this step (R501): the next scheduled sample, else free values, so that every sequence is admitted
(log entry 6). -/
def State.sample (s : State) : Lines :=
  s.lines.headD ⟨Config.freeNmi s.draws, Config.freeMi s.draws, Config.freeData s.draws⟩

/-- The state after the sample is taken: it is used up, or drawn where none is scheduled, and the EI latch is cleared
(R500, R501, R513). -/
def State.polled (s : State) : State :=
  { s with
    lines := s.lines.tail
    eiPending := false
    draws := if s.lines.isEmpty then s.draws + 1 else s.draws }

/-- `blocked` (R500, R513): this step directly follows an EI under `P_EI_DELAY`. -/
def State.blocked (s : State) : Bool := s.cfg.eiDelay && s.eiPending

/-- A maskable interrupt is serviced at this step if no NMI is (R503). -/
def State.acceptsInt (s : State) : Bool := s.sample.mi && s.iff1 && !s.blocked

/-! ## The step -/

/-- What a step does, in the order of precedence of R500. -/
def cycle (s : State) : Out :=
  if s.sample.nmi then .next s.polled.serviceNmi
  else if s.acceptsInt then .next (s.polled.serviceInt s.sample.data)
  else if s.halted then .next s.polled
  else exec s.polled.fetched (s.polled.past s.polled.fetched)

/-- The five outcomes of R500, an observation and not state. -/
inductive StepOutcome
  | nmi | int | halted | executed | unrecognised
  deriving DecidableEq, Repr

/-- An instruction that ends by `Unrecognised()` under the parameters (R510, R470, R471). -/
def Instr.unrecognised (cfg : Config) : Instr → Bool
  | .unrecEd _ | .unrecDd _ | .unrecFd _ => true
  | .ddOther _ | .fdOther _ => cfg.ddfdOther == .unrecognised
  | _ => false

/-- The outcome of the step from a state (R500). -/
def State.outcome (s : State) : StepOutcome :=
  if s.sample.nmi then .nmi
  else if s.acceptsInt then .int
  else if s.halted then .halted
  else if Instr.unrecognised s.cfg s.polled.fetched then .unrecognised
  else .executed

end Sys2Proof.Machine
end

