-- ==== Sys2Proof/Machine/Step.lean ====
section
/-! DEFINITION. The step of the machine, and the placing of an instruction where the step fetches. -/

namespace Sys2Proof.Machine

/-- `step()` (R500). -/
def step (s : State) : Host.Outcome State Fault Refusal := cycle s

/-- The state with an instruction of spec/opcode_table.json stored at PC, four bytes whatever its length, so that the next
step runs it: the core is taken out of HALT and the sample of that step has both lines quiet (log entries 11,
12, 23). -/
def State.withFetchWord (s : State) (nbits w : Nat) : State :=
  { s with
    mem := Memory.load s.mem s.pc [tableByte nbits w 0, tableByte nbits w 1, tableByte nbits w 2, tableByte nbits w 3]
    halted := false
    lines := ⟨false, false, 0⟩ :: s.lines.tail }

end Sys2Proof.Machine
end

