-- ==== Sys2Proof/Machine/Host.lean ====
section
/-! DEFINITION. What the host can do between steps: reset the core (R550-R553), store into memory (R87, R554), and read state
(R55, R56). -/

namespace Sys2Proof.Machine

/-- `reset()` as a host call between steps: the core's own state takes its reset values at once; memory, ports and the
model's own fields keep what they hold (R552, R553; log entry 14). -/
def State.hostReset (s : State) : State :=
  { State.reset with
    mem := s.mem, portLog := s.portLog, cfg := s.cfg, lines := s.lines, portIn := s.portIn, draws := s.draws }

/-- The host stores bytes from an address on (R87, R554). -/
def State.hostStore (s : State) (addr : Word) (bytes : List Byte) : State :=
  { s with mem := Memory.load s.mem addr bytes }

/-- A flip-flop as a byte of `get_state` (R55). -/
def boolByte (v : Bool) : Byte := if v then 1 else 0

/-- `get_state()`: the 28 bytes in the order of R55. -/
def State.getState (s : State) : List Byte :=
  [s.b, s.c, s.d, s.e, s.h, s.l, s.f, s.a,
   s.b', s.c', s.d', s.e', s.h', s.l', s.f', s.a',
   s.i, s.r,
   hiByte s.ix, loByte s.ix, hiByte s.iy, loByte s.iy, hiByte s.sp, loByte s.sp, hiByte s.pc, loByte s.pc,
   boolByte s.iff1, boolByte s.iff2]

end Sys2Proof.Machine
end

