-- ==== Sys2Proof/Safety.lean ====
section
/-! DEFINITION. What counts as a safe run, the invariant every step keeps, and the vocabulary the statements use: what it is
to carry a credit, to set the flags, to store, and to answer with one of the shapes of effect the instructions have.
Each shape names everything that may change; a record update says that nothing else does. -/

namespace Sys2Proof.Machine

/-- A safe outcome: the machine goes on. -/
def Safe (o : Out) : Prop := ∃ t, o = .next t

/-- The invariant of a run: memory is in its canonical form; IFF1 is never on with IFF2 off (EI, DI, the services and the
returns of R43 keep this); the EI latch is on only under `P_EI_DELAY`, with interrupts on and the core running (R57,
R513). -/
structure Inv (s : State) : Prop where
  mem : Memory.wf s.mem = true
  iff : s.iff1 = true → s.iff2 = true
  latch : s.eiPending = true → s.cfg.eiDelay = true ∧ s.iff1 = true ∧ s.iff2 = true ∧ s.halted = false

/-! ## Credit, flags, stores -/

/-- R carries the credit of a path that costs `k` T-states: R[6:0] gains ⌈k/4⌉ modulo 128 and R[7] stays (R42). -/
def Credited (s t : State) (k : Nat) : Prop :=
  t.r[7] = s.r[7] ∧ t.r.toNat % 128 = (s.r.toNat % 128 + (k + 3) / 4) % 128

/-- The six documented flags have the given values, and bits 5 and 3 are those of the old byte (R46, R53). -/
def FlagsAre (f f' : Byte) (s z h pv n c : Bool) : Prop :=
  f'[7] = s ∧ f'[6] = z ∧ f'[5] = f[5] ∧ f'[4] = h ∧ f'[3] = f[3] ∧ f'[2] = pv ∧ f'[1] = n ∧ f'[0] = c

/-- Every byte reads as before but the one at `addr`, which reads `v` unless the write is ignored (R71, R72). -/
def StoredByte (s t : State) (addr : Word) (v : Byte) : Prop :=
  ∀ a, t.read8 a = if a = addr ∧ s.cfg.romBoundary ≤ addr.toNat then v else s.read8 a

/-- Every byte reads as before but the two of a word at `addr`, low byte first, wrapping (R72, R73, R74). -/
def StoredWord (s t : State) (addr : Word) (v : Word) : Prop :=
  ∀ a, t.read8 a =
    if a = addr ∧ s.cfg.romBoundary ≤ addr.toNat then v.extractLsb' 0 8
    else if a = addr + 1 ∧ s.cfg.romBoundary ≤ (addr + 1).toNat then v.extractLsb' 8 8
    else s.read8 a

/-- A byte that differs from another in bit `b` at most, which is `x`. -/
def BitIs (v v' : Byte) (b : Fin 8) (x : Bool) : Prop := ∀ k : Fin 8, v'[k.val] = if k = b then x else v[k.val]

/-- The 8-bit registers a register code names are those of `s` but `q`, which is `v`. -/
def OnlyReg (s t : State) (q : Reg8) (v : Byte) : Prop := t.reg q = v ∧ ∀ p, p ≠ q → t.reg p = s.reg p

/-- A sum read as two's complement leaves the range of `w` bits. -/
def overflows (w : Nat) (x : Int) : Bool := decide (x < -2 ^ (w - 1) ∨ 2 ^ (w - 1) ≤ x)

/-! ## Loads and stores -/

/-- Answers with `x[q] = v`, the other registers and everything else unchanged. -/
def LoadsReg (s : State) (i : Instr) (q : Reg8) (v : Byte) (k : Nat) : Prop :=
  ∃ t, exec i s = .next t ∧
    t = { s with a := t.a, b := t.b, c := t.c, d := t.d, e := t.e, h := t.h, l := t.l, r := t.r } ∧
    OnlyReg s t q v ∧ Credited s t k

/-- Answers with `pair[p] = v`, the other pairs and everything else unchanged. -/
def LoadsPair (s : State) (i : Instr) (p : Pair) (v : Word) (k : Nat) : Prop :=
  ∃ t, exec i s = .next t ∧
    t = { s with b := t.b, c := t.c, d := t.d, e := t.e, h := t.h, l := t.l, sp := t.sp, r := t.r } ∧
    t.pair p = v ∧ (∀ q, q ≠ p → t.pair q = s.pair q) ∧ Credited s t k

/-- Answers with XY = v and everything else unchanged. -/
def LoadsIndex (s : State) (i : Instr) (x : Index) (v : Word) (k : Nat) : Prop :=
  ∃ t, exec i s = .next t ∧
    (t = match x with
      | .ix => { s with ix := v, r := t.r }
      | .iy => { s with iy := v, r := t.r }) ∧
    Credited s t k

/-- Answers with the byte `v` stored at `addr` and everything else unchanged. -/
def StoresByte (s : State) (i : Instr) (addr : Word) (v : Byte) (k : Nat) : Prop :=
  ∃ t, exec i s = .next t ∧ t = { s with mem := t.mem, r := t.r } ∧ StoredByte s t addr v ∧ Credited s t k

/-- Answers with the word `v` stored at `addr` and everything else unchanged. -/
def StoresWord (s : State) (i : Instr) (addr : Word) (v : Word) (k : Nat) : Prop :=
  ∃ t, exec i s = .next t ∧ t = { s with mem := t.mem, r := t.r } ∧ StoredWord s t addr v ∧ Credited s t k

/-- Answers with `v` pushed: SP two lower, the word at the new SP, everything else unchanged (R76). -/
def Pushes (s : State) (i : Instr) (v : Word) (k : Nat) : Prop :=
  ∃ t, exec i s = .next t ∧ t = { s with mem := t.mem, sp := s.sp - 2, r := t.r } ∧ StoredWord s t (s.sp - 2) v ∧
    Credited s t k

/-! ## Arithmetic -/

/-- Answers with A and F those of `A + v + cin` (R152): the exact sum, its carries, and its two's-complement overflow. -/
def Adds (s : State) (i : Instr) (v : Byte) (cin : Bool) (k : Nat) : Prop :=
  ∃ t, exec i s = .next t ∧ t = { s with a := t.a, f := t.f, r := t.r } ∧
    t.a.toNat = (s.a.toNat + v.toNat + cin.toNat) % 256 ∧
    FlagsAre s.f t.f t.a[7] (t.a == 0)
      (decide (15 < s.a.toNat % 16 + v.toNat % 16 + cin.toNat))
      (overflows 8 (s.a.toInt + v.toInt + cin.toNat))
      false
      (decide (255 < s.a.toNat + v.toNat + cin.toNat)) ∧
    Credited s t k

/-- Answers with F that of `A - v - cin` (R153), and A its result when `toA`, else unchanged. -/
def Subtracts (s : State) (i : Instr) (v : Byte) (cin toA : Bool) (k : Nat) : Prop :=
  ∃ (t : State) (r : Byte), exec i s = .next t ∧ t = { s with a := if toA then r else s.a, f := t.f, r := t.r } ∧
    (r.toNat : Int) = ((s.a.toNat : Int) - v.toNat - cin.toNat) % 256 ∧
    FlagsAre s.f t.f r[7] (r == 0)
      (decide (s.a.toNat % 16 < v.toNat % 16 + cin.toNat))
      (overflows 8 (s.a.toInt - v.toInt - cin.toNat))
      true
      (decide (s.a.toNat < v.toNat + cin.toNat)) ∧
    Credited s t k

/-- Answers with A = `r` and the flags of a logical operation (R154-R156). -/
def Logics (s : State) (i : Instr) (r : Byte) (h : Bool) (k : Nat) : Prop :=
  ∃ t, exec i s = .next t ∧ t = { s with a := r, f := t.f, r := t.r } ∧
    FlagsAre s.f t.f r[7] (r == 0) h (parity r) false false ∧ Credited s t k

/-- The flags of `Inc8(v)` with result `r` (R157). -/
def IncFlags (f f' v r : Byte) : Prop :=
  FlagsAre f f' r[7] (r == 0) (decide (v.toNat % 16 = 15)) (decide (v.toNat = 0x7F)) false f[0]

/-- The flags of `Dec8(v)` with result `r` (R158). -/
def DecFlags (f f' v r : Byte) : Prop :=
  FlagsAre f f' r[7] (r == 0) (decide (v.toNat % 16 = 0)) (decide (v.toNat = 0x80)) true f[0]

/-- Answers with register `q` replaced by a result and F as `flags` says of the old byte and the result. -/
def ChangesReg (s : State) (i : Instr) (q : Reg8) (r : Byte) (flags : Byte → Byte → Byte → Byte → Prop) (k : Nat) : Prop :=
  ∃ t, exec i s = .next t ∧
    t = { s with a := t.a, b := t.b, c := t.c, d := t.d, e := t.e, h := t.h, l := t.l, f := t.f, r := t.r } ∧
    OnlyReg s t q r ∧ flags s.f t.f (s.reg q) r ∧ Credited s t k

/-- Answers with the byte at `addr` replaced by a result and F as `flags` says, even where the store is ignored. -/
def ChangesMem (s : State) (i : Instr) (addr : Word) (r : Byte) (flags : Byte → Byte → Byte → Byte → Prop) (k : Nat) :
    Prop :=
  ∃ t, exec i s = .next t ∧ t = { s with f := t.f, mem := t.mem, r := t.r } ∧ StoredByte s t addr r ∧
    flags s.f t.f (s.read8 addr) r ∧ Credited s t k

/-- The flags of `Add16(a, b)` (R159). -/
def Add16Flags (f f' : Byte) (a b : Word) : Prop :=
  FlagsAre f f' f[7] f[6] (decide (4095 < a.toNat % 4096 + b.toNat % 4096)) f[2] false (decide (65535 < a.toNat + b.toNat))

/-! ## Rotates and shifts -/

/-- The bits moved left, `x` into bit 0. -/
def MovedLeft (v r : Byte) (x : Bool) : Prop := r.toNat = (2 * v.toNat + x.toNat) % 256

/-- The bits moved right, `x` into bit 7. -/
def MovedRight (v r : Byte) (x : Bool) : Prop := r.toNat = v.toNat / 2 + 128 * x.toNat

/-- The table of R163: the result and the bit moved out. -/
def Rotated (o : Rot) (f v r : Byte) (out : Bool) : Prop :=
  match o with
  | .rlc => MovedLeft v r v[7] ∧ out = v[7]
  | .rrc => MovedRight v r v[0] ∧ out = v[0]
  | .rl => MovedLeft v r f[0] ∧ out = v[7]
  | .rr => MovedRight v r f[0] ∧ out = v[0]
  | .sla => MovedLeft v r false ∧ out = v[7]
  | .sra => MovedRight v r v[7] ∧ out = v[0]
  | .sll => MovedLeft v r true ∧ out = v[7]
  | .srl => MovedRight v r false ∧ out = v[0]

/-- The flags of a CB rotate or shift with result `r` and bit `out` moved out (R163). -/
def ShiftFlags (f f' r : Byte) (out : Bool) : Prop := FlagsAre f f' r[7] (r == 0) false (parity r) false out

/-- Answers with register `q` rotated or shifted. -/
def RotatesReg (s : State) (i : Instr) (o : Rot) (q : Reg8) (k : Nat) : Prop :=
  ∃ t r out, exec i s = .next t ∧
    t = { s with a := t.a, b := t.b, c := t.c, d := t.d, e := t.e, h := t.h, l := t.l, f := t.f, r := t.r } ∧
    Rotated o s.f (s.reg q) r out ∧ OnlyReg s t q r ∧ ShiftFlags s.f t.f r out ∧ Credited s t k

/-- Answers with the byte at `addr` rotated or shifted, the result also in the register `copy` names, if any (R464). -/
def RotatesMem (s : State) (i : Instr) (o : Rot) (addr : Word) (copy : Option Reg8) (k : Nat) : Prop :=
  ∃ t r out, exec i s = .next t ∧
    t = { s with
      a := t.a, b := t.b, c := t.c, d := t.d, e := t.e, h := t.h, l := t.l, f := t.f, mem := t.mem, r := t.r } ∧
    Rotated o s.f (s.read8 addr) r out ∧ StoredByte s t addr r ∧
    (∀ p, t.reg p = if copy = some p then r else s.reg p) ∧ ShiftFlags s.f t.f r out ∧ Credited s t k

/-- Answers with the flags of `Bit(b, v)` and nothing else written; S and P/V are any value (R164). -/
def TestsBit (s : State) (i : Instr) (b : Fin 8) (v : Byte) (k : Nat) : Prop :=
  ∃ t anyS anyPV, exec i s = .next t ∧ t = { s with f := t.f, r := t.r, draws := t.draws } ∧
    FlagsAre s.f t.f anyS (!v[b.val]) true anyPV false s.f[0] ∧ Credited s t k

/-- Answers with bit `b` of the byte at `addr` made `x`, the byte also in the register `copy` names, if any (R468). -/
def WritesBit (s : State) (i : Instr) (b : Fin 8) (x : Bool) (addr : Word) (copy : Option Reg8) (k : Nat) : Prop :=
  ∃ t v, exec i s = .next t ∧
    t = { s with
      a := t.a, b := t.b, c := t.c, d := t.d, e := t.e, h := t.h, l := t.l, mem := t.mem, r := t.r } ∧
    BitIs (s.read8 addr) v b x ∧ StoredByte s t addr v ∧ (∀ p, t.reg p = if copy = some p then v else s.reg p) ∧
    Credited s t k

/-! ## Control -/

/-- Answers with PC = target and everything else unchanged. -/
def JumpsTo (s : State) (i : Instr) (target : Word) (k : Nat) : Prop :=
  ∃ t, exec i s = .next t ∧ t = { s with pc := target, r := t.r } ∧ Credited s t k

/-- The target of a relative jump: PC plus the displacement read as signed, modulo 65536 (R111). -/
def RelativeTarget (s : State) (e : Byte) (target : Word) : Prop :=
  (target.toNat : Int) = ((s.pc.toNat : Int) + e.toInt) % 65536

/-- Answers with PC pushed and PC = target (R306, R310). -/
def Calls (s : State) (i : Instr) (target : Word) (k : Nat) : Prop :=
  ∃ t, exec i s = .next t ∧ t = { s with mem := t.mem, sp := s.sp - 2, pc := target, r := t.r } ∧
    StoredWord s t (s.sp - 2) s.pc ∧ Credited s t k

/-- Answers with PC the word at SP, low byte first, SP two higher and IFF1 as given (R308, R387). -/
def Returns (s : State) (i : Instr) (iff1 : Bool) (k : Nat) : Prop :=
  ∃ t, exec i s = .next t ∧ t = { s with pc := t.pc, sp := s.sp + 2, iff1 := iff1, r := t.r } ∧
    t.pc.toNat = 256 * (s.read8 (s.sp + 1)).toNat + (s.read8 s.sp).toNat ∧ Credited s t k

/-! ## Ports and blocks -/

/-- The byte a port read answers with: the next scheduled one, and any byte once there is none (R79). -/
def PortAnswer (s : State) (v : Byte) : Prop := s.portIn = [] ∨ s.portIn.head? = some v

/-- The end of one iteration of a block instruction: a repeating form that goes on has PC two back and the first path's
cost, and otherwise PC stays and the last path's cost is credited (R414). -/
def Iterates (s t : State) (again : Bool) (k kLast : Nat) : Prop :=
  if again then t.pc = s.pc - 2 ∧ Credited s t k else t.pc = s.pc ∧ Credited s t kLast

/-- Answers with one block transfer (R398, R400) and, when `repeating`, its repeat test BC ≠ 0 (R399, R401). -/
def MovesBlock (s : State) (i : Instr) (dir : Word) (repeating : Bool) (k kLast : Nat) : Prop :=
  ∃ t, exec i s = .next t ∧
    t = { s with
      b := t.b, c := t.c, d := t.d, e := t.e, h := t.h, l := t.l, f := t.f, mem := t.mem, pc := t.pc, r := t.r } ∧
    StoredByte s t s.de (s.read8 s.hl) ∧ t.hl = s.hl + dir ∧ t.de = s.de + dir ∧ t.bc = s.bc - 1 ∧
    FlagsAre s.f t.f s.f[7] s.f[6] false (t.bc != 0) false s.f[0] ∧
    Iterates s t (repeating && t.bc != 0) k kLast

/-- Answers with one block compare (R402, R404) and, when `repeating`, its repeat test (R403, R405). -/
def ComparesBlock (s : State) (i : Instr) (dir : Word) (repeating : Bool) (k kLast : Nat) : Prop :=
  ∃ t, exec i s = .next t ∧
    t = { s with b := t.b, c := t.c, h := t.h, l := t.l, f := t.f, pc := t.pc, r := t.r } ∧
    t.hl = s.hl + dir ∧ t.bc = s.bc - 1 ∧
    FlagsAre s.f t.f (s.a - s.read8 s.hl)[7] (s.a == s.read8 s.hl)
      (decide (s.a.toNat % 16 < (s.read8 s.hl).toNat % 16)) (t.bc != 0) true s.f[0] ∧
    Iterates s t (repeating && t.bc != 0 && s.a != s.read8 s.hl) k kLast

/-- The repeat test of block I/O, on the state after the decrement of B (R415). -/
def againIo (cfg : Config) (t : State) : Bool :=
  match cfg.blockioRepeat with
  | .bNonzero => t.b != 0
  | .bcNonzero => t.bc != 0

/-- What one block input and one block output share (R416): B counted down, HL moved, S and H any value. -/
def CountsBlockIo (s t : State) (dir : Word) (repeating : Bool) (k kLast : Nat) : Prop :=
  t.b = s.b - 1 ∧ t.hl = s.hl + dir ∧
    (∃ anyS anyH, FlagsAre s.f t.f anyS (t.b == 0) anyH (t.bc != 0) true s.f[0]) ∧
    Iterates s t (repeating && againIo s.cfg t) k kLast

/-- Answers with one block input (R406, R408): the port is BC before the decrement. -/
def InputsBlock (s : State) (i : Instr) (dir : Word) (repeating : Bool) (k kLast : Nat) : Prop :=
  ∃ t v, exec i s = .next t ∧
    t = { s with
      b := t.b, h := t.h, l := t.l, f := t.f, mem := t.mem, pc := t.pc, r := t.r
      portLog := s.portLog ++ [.read s.bc v], portIn := s.portIn.tail, draws := t.draws } ∧
    PortAnswer s v ∧ StoredByte s t s.hl v ∧ CountsBlockIo s t dir repeating k kLast

/-- Answers with one block output (R410, R412): the port is BC after the decrement. -/
def OutputsBlock (s : State) (i : Instr) (dir : Word) (repeating : Bool) (k kLast : Nat) : Prop :=
  ∃ t, exec i s = .next t ∧
    t = { s with
      b := t.b, h := t.h, l := t.l, f := t.f, pc := t.pc, r := t.r
      portLog := s.portLog ++ [.write t.bc (s.read8 s.hl)], draws := t.draws } ∧
    CountsBlockIo s t dir repeating k kLast

end Sys2Proof.Machine
end

