-- ==== Sys2Proof/Certificates/Slice0/Obligations.lean ====
section
/-! DEFINITION. The statements for the provers.  The shapes of effect they name (`LoadsReg`, `Adds`, `Calls`, ...) are those
of Sys2Proof/Safety.lean; a cost is R558's default where `P_TSTATES` says nothing else. -/

section Statements

open Sys2Proof Sys2Proof.Machine

/-- After reset A = F = 0xFF, SP = 0xFFFF, PC = 0, both interrupt flip-flops false, interrupt mode 0, not halted, the
EI latch false, and every other register zero. (Stated; R550.) -/
def Obligations.ResetState : Prop :=
  let s := State.reset
  s.a = 0xFF ∧ s.f = 0xFF ∧ s.sp = 0xFFFF ∧ s.pc = 0x0000 ∧ s.iff1 = false ∧ s.iff2 = false ∧ s.im = .im0 ∧
  s.halted = false ∧ s.eiPending = false ∧
  (∀ v ∈ [s.b, s.c, s.d, s.e, s.h, s.l, s.a', s.f', s.b', s.c', s.d', s.e', s.h', s.l', s.i, s.r], v = 0x00) ∧
  s.ix = 0x0000 ∧ s.iy = 0x0000

/-- Whatever the state, a host reset makes the 28 bytes of get_state, the interrupt mode, the HALT latch and the EI
latch those of the reset state, and leaves every memory byte and the port events alone. (Derived; R552, R553,
R55.) -/
def Obligations.HostReset : Prop :=
  ∀ s : State,
    s.hostReset.getState = State.reset.getState ∧ s.hostReset.im = .im0 ∧ s.hostReset.halted = false ∧
    s.hostReset.eiPending = false ∧ (∀ a, s.hostReset.read8 a = s.read8 a) ∧ s.hostReset.portLog = s.portLog

/-- One word of each prefix family, written bit by bit from the encoding column of the opcode table, decodes to the
instruction it stands for. (Derived; R114, R115, R116, R117, R118.) -/
def Obligations.SampleDecodings : Prop :=
  decode4 0b01111000 0x00 0x00 0x00 = .ldRR .a .b ∧
  decode4 0b00000001 0x34 0x12 0x00 = .ldDdNn .bc 0x1234 ∧
  decode4 0b11101010 0x00 0x80 0x00 = .jpCNn .pe 0x8000 ∧
  decode4 0b11001011 0b01111110 0x00 0x00 = .bitBIndHl 7 ∧
  decode4 0b11101101 0b01110011 0x00 0x40 = .ldIndNnDd .sp 0x4000 ∧
  decode4 0b11101101 0b01110000 0x00 0x00 = .unrecEd 0x70 ∧
  decode4 0b11011101 0b00110110 0x05 0x77 = .ldIndIxDN 0x05 0x77 ∧
  decode4 0b11111101 0b11001011 0x03 0b10111111 = .resBIndIyDR 7 0x03 .a ∧
  decode4 0b11011101 0b00100110 0x12 0x00 = .unrecDd 0x26 ∧
  decode4 0b11011101 0b00111110 0x12 0x00 = .ddOther 0x3E

/-- For every well-formed instruction, with every operand value its encoding admits, and whatever bytes follow,
decoding its encoding gives that instruction and exactly those following bytes. (Derived; R100, R113, R114, R115,
R116, R117, R118, R119.) -/
def Obligations.EncodeThenDecode : Prop :=
  ∀ (i : Instr) (rest : List Byte), i.wf = true → decode (encode i ++ rest) = .ok (i, rest)

/-- Decoding is total on any four bytes: it gives a well-formed instruction of one to four bytes whose encoding is
exactly that many of the bytes, so no bit of them is dropped and no encoding falls through to another instruction.
(Derived; R100, R113, R119, R120.) -/
def Obligations.DecodeThenEncode : Prop :=
  ∀ b0 b1 b2 b3 : Byte,
    (decode4 b0 b1 b2 b3).wf = true ∧
    1 ≤ (decode4 b0 b1 b2 b3).length ∧ (decode4 b0 b1 b2 b3).length ≤ 4 ∧
    encode (decode4 b0 b1 b2 b3) = [b0, b1, b2, b3].take (decode4 b0 b1 b2 b3).length

/-- A four-byte window decodes to an unrecognised instruction exactly when it starts with ED and a byte outside
ED_SET, or with DD or FD and a byte of the UNRECOGNISED class; and the OTHER_SET forms are exactly DD or FD before
a byte that is neither CB, nor in INDEX_SET, nor in the UNRECOGNISED class. (Derived; R116, R117, R120.) -/
def Obligations.UnrecognisedExactly : Prop :=
  ∀ b0 b1 b2 b3 op : Byte,
    (decode4 b0 b1 b2 b3 = .unrecEd op ↔ b0 = 0xED ∧ b1 = op ∧ op ∉ edSet) ∧
    (decode4 b0 b1 b2 b3 = .unrecDd op ↔ b0 = 0xDD ∧ b1 = op ∧ op ∈ unrecognisedSet) ∧
    (decode4 b0 b1 b2 b3 = .unrecFd op ↔ b0 = 0xFD ∧ b1 = op ∧ op ∈ unrecognisedSet) ∧
    (decode4 b0 b1 b2 b3 = .ddOther op ↔
      b0 = 0xDD ∧ b1 = op ∧ op ≠ 0xCB ∧ op ∉ indexSet ∧ op ∉ unrecognisedSet) ∧
    (decode4 b0 b1 b2 b3 = .fdOther op ↔
      b0 = 0xFD ∧ b1 = op ∧ op ≠ 0xCB ∧ op ∉ indexSet ∧ op ∉ unrecognisedSet)

/-- When no interrupt is serviced and the core is not halted, and the bytes at PC decode to an instruction, the step
is that instruction's meaning on the state whose input sample is used up (or drawn, where none is scheduled),
whose EI latch is clear and whose PC is past the instruction. (Derived; R38, R81, R113, R500.) -/
def Obligations.StepRunsInstruction : Prop :=
  ∀ (s : State) (i : Instr), s.sample.nmi = false → s.acceptsInt = false → s.halted = false →
    decode4 (s.read8 s.pc) (s.read8 (s.pc + 1)) (s.read8 (s.pc + 2)) (s.read8 (s.pc + 3)) = i →
    step s = exec i { s with
      lines := s.lines.tail, draws := if s.lines.isEmpty then s.draws + 1 else s.draws
      eiPending := false, pc := s.pc + BitVec.ofNat 16 i.length }

/-- When no interrupt is serviced and the core is not halted, and memory at PC and up holds the encoding of a well-
formed instruction, whatever the bytes after it, the step is that instruction's meaning on the state with the
input sample used up or drawn, the EI latch clear and PC past it. (Derived; R38, R81, R119, R500.) -/
def Obligations.StepRunsEncoding : Prop :=
  ∀ (s : State) (i : Instr), s.sample.nmi = false → s.acceptsInt = false → s.halted = false → i.wf = true →
    (∀ k < i.length, (encode i)[k]? = some (s.read8 (s.pc + BitVec.ofNat 16 k))) →
    step s = exec i { s with
      lines := s.lines.tail, draws := if s.lines.isEmpty then s.draws + 1 else s.draws
      eiPending := false, pc := s.pc + BitVec.ofNat 16 i.length }

/-- Whenever nmi is sampled true, whatever IFF1, IFF2, the mode and the HALT latch are, the step pushes PC, sets PC to
0x0066, clears IFF1, keeps IFF2, leaves HALT and credits 17 T-states; nothing else changes but the sample, used up
or drawn, and the EI latch, which is cleared. (Stated; R502.) -/
def Obligations.NmiService : Prop :=
  ∀ s : State, Memory.wf s.mem = true → s.sample.nmi = true →
    ∃ t, step s = .next t ∧
      t = { s with
        pc := 0x0066, sp := s.sp - 2, iff1 := false, halted := false, mem := t.mem, r := t.r
        lines := s.lines.tail, draws := if s.lines.isEmpty then s.draws + 1 else s.draws
        eiPending := false } ∧
      StoredWord s t (s.sp - 2) s.pc ∧ Credited s t 17

/-- When mi and IFF1 are true, nmi is not, and the step does not directly follow an EI under P_EI_DELAY, the step
pushes PC, clears both flip-flops, leaves HALT, credits 17 T-states, and goes to data AND 0x38 in mode 0, to
0x0038 in mode 1, and in mode 2 to the word at I with data, read after the push. Nothing else changes but the
sample, used up or drawn, and the EI latch, which is cleared. (The mode 0 vector and the order of push and table
read are log entry 10.) (Derived; R503, R504, R505, R506, R507, R513.) -/
def Obligations.MaskableService : Prop :=
  ∀ s : State, Memory.wf s.mem = true → s.sample.nmi = false → s.sample.mi = true → s.iff1 = true →
    ¬ (s.cfg.eiDelay = true ∧ s.eiPending = true) →
    ∃ t, step s = .next t ∧
      t = { s with
        pc := t.pc, sp := s.sp - 2, iff1 := false, iff2 := false, halted := false, mem := t.mem, r := t.r
        lines := s.lines.tail, draws := if s.lines.isEmpty then s.draws + 1 else s.draws
        eiPending := false } ∧
      StoredWord s t (s.sp - 2) s.pc ∧ Credited s t 17 ∧
      (s.im = .im0 → t.pc.toNat = (s.sample.data &&& 0x38).toNat) ∧
      (s.im = .im1 → t.pc = 0x0038) ∧
      (s.im = .im2 → t.pc.toNat =
        256 * (t.read8 (mkWord s.i s.sample.data + 1)).toNat + (t.read8 (mkWord s.i s.sample.data)).toNat)

/-- With IFF1 false, or in the step right after an EI under P_EI_DELAY, or when nmi is sampled at the same step, the
step is the one that would have run with mi low: nothing is latched. (Derived; R503, R512, R513.) -/
def Obligations.MaskedRequestIgnored : Prop :=
  ∀ (s : State) (n : Lines) (rest : List Lines), s.lines = n :: rest →
    (s.iff1 = false ∨ (s.cfg.eiDelay = true ∧ s.eiPending = true) ∨ n.nmi = true) →
    step s = step { s with lines := { n with mi := false } :: rest }

/-- From a halted state, as many steps as samples are scheduled, or fewer, in each of which nmi is low and either IFF1
is false or mi is low, change nothing but the samples used up and the EI latch, which the first step clears.
(Derived; R508, R509, R45.) -/
def Obligations.HaltedStaysHalted : Prop :=
  ∀ (s : State) (n : Nat), s.halted = true → n ≤ s.lines.length →
    (∀ x ∈ s.lines.take n, x.nmi = false ∧ (x.mi = false ∨ s.iff1 = false)) →
    Host.Core.run Sys2Proof.core n s =
      .next { s with lines := s.lines.drop n, eiPending := if n = 0 then s.eiPending else false }

/-- EI sets both flip-flops and, only under P_EI_DELAY, the latch. With mi high and nmi low at the step that follows,
the interrupt is serviced at once without the delay (IFF1 is false afterwards); with it, the next instruction runs
first as if mi were low, and after it the latch is set if it was EI, and clear unless it was EI or DD or FD before
FB. (Derived; R314, R500, R513.) -/
def Obligations.EiThenRequest : Prop :=
  ∀ s : State, ∃ t, exec .ei s = .next t ∧
    t = { s with iff1 := true, iff2 := true, eiPending := s.cfg.eiDelay || s.eiPending, r := t.r } ∧
    Credited s t (s.cost 314 false 4) ∧
    (s.sample.nmi = false → s.sample.mi = true →
      (s.cfg.eiDelay = false → ∃ u, step t = .next u ∧ u.iff1 = false ∧ u.iff2 = false ∧ u.sp = s.sp - 2) ∧
      (s.cfg.eiDelay = true → s.halted = false →
        ∃ u, step t = .next u ∧
          exec t.fetched { t with
            lines := t.lines.tail, draws := if t.lines.isEmpty then t.draws + 1 else t.draws
            eiPending := false, pc := t.pc + BitVec.ofNat 16 t.fetched.length } = .next u ∧
          (t.fetched = .ei → u.eiPending = true) ∧
          (t.fetched ∉ [.ei, .ddOther 0xFB, .fdOther 0xFB] → u.eiPending = false)))

/-- From every state in which memory is in its canonical form, IFF1 implies IFF2, and the EI latch implies P_EI_DELAY
with interrupts on and the core running, every step leads to such a state. (The canonical form is the model's own,
log entry 1.) (Derived; R43, R57, R71, R313, R314, R502, R503.) -/
def Obligations.InvariantKept : Prop :=
  ∀ s t : State, Inv s → step s = .next t → Inv t

/-- The reset state meets the invariant. (Derived; R550.) -/
def Obligations.InvariantAtReset : Prop := Inv State.reset

/-- Every instruction answers a next state in every state, and so does every step: there is no fault and no refusal.
(Derived; R511, R510, R522.) -/
def Obligations.NothingStops : Prop :=
  (∀ (i : Instr) (s : State), Safe (exec i s)) ∧ (∀ s : State, Safe (step s))

/-- From every state with memory in canonical form, after any step every byte below P_ROM_BOUNDARY reads as before and
the parameters are the same. (Derived; R72, R7.) -/
def Obligations.RomAndParametersFixed : Prop :=
  ∀ s t : State, Memory.wf s.mem = true → step s = .next t →
    t.cfg = s.cfg ∧ ∀ a : Word, a.toNat < s.cfg.romBoundary → t.read8 a = s.read8 a

/-- Whatever the instruction, bits 5 and 3 of F are as before unless it is POP AF or EX AF,AF', or DD or FD before the
byte of one of these two (F1, 08), which may run it under P_DDFD_OTHER = ROOT. (Derived; R53, R150, R470.) -/
def Obligations.UndocumentedFlagsKept : Prop :=
  ∀ (i : Instr) (s t : State), exec i s = .next t →
    i ∉ [.popQq .af, .exAfAf, .ddOther 0xF1, .ddOther 0x08, .fdOther 0xF1, .fdOther 0x08] →
    t.f[5] = s.f[5] ∧ t.f[3] = s.f[3]

/-- Whatever the instruction, I changes only by LD I,A, R[7] only by LD R,A, the interrupt mode only by IM 0, 1 and 2,
and the alternate registers only by EX AF,AF' and EXX (or EX AF,AF' after DD or FD). (Derived; R35, R39, R40,
R44.) -/
def Obligations.SpecialRegisterWriters : Prop :=
  ∀ (i : Instr) (s t : State), exec i s = .next t →
    (i ≠ .ldIA → t.i = s.i) ∧
    (i ≠ .ldRA → t.r[7] = s.r[7]) ∧
    (i ∉ [.im0, .im1, .im2] → t.im = s.im) ∧
    (i ∉ [.exAfAf, .ddOther 0x08, .fdOther 0x08] → t.a' = s.a' ∧ t.f' = s.f') ∧
    (i ≠ .exx → t.b' = s.b' ∧ t.c' = s.c' ∧ t.d' = s.d' ∧ t.e' = s.e' ∧ t.h' = s.h' ∧ t.l' = s.l')

/-- A well-formed instruction leaves the core halted exactly when it was already set, or the instruction is HALT, or
it ends by the unrecognised outcome, or it is DD or FD before 76 under P_DDFD_OTHER = ROOT. A step from a halted
state leaves it running exactly when an interrupt is serviced. (Derived; R45, R312, R510, R509.) -/
def Obligations.HaltLatch : Prop :=
  (∀ (i : Instr) (s t : State), i.wf = true → exec i s = .next t →
    (t.halted = true ↔ s.halted = true ∨ i ∈ [.halt, .ddOther 0x76, .fdOther 0x76] ∨ Instr.unrecognised s.cfg i = true)) ∧
  (∀ s t : State, s.halted = true → step s = .next t →
    (t.halted = false ↔ s.sample.nmi = true ∨
      (s.sample.mi = true ∧ s.iff1 = true ∧ ¬ (s.cfg.eiDelay = true ∧ s.eiPending = true))))

/-- Whatever the instruction, IFF1 changes only by EI, DI, RETN and RETI and IFF2 only by EI and DI (or EI or DI after
DD or FD), and the EI latch only by EI under P_EI_DELAY. (Derived; R43, R313, R314, R387, R388.) -/
def Obligations.FlipFlopWriters : Prop :=
  ∀ (i : Instr) (s t : State), exec i s = .next t →
    (i ∉ [.ei, .di, .ddOther 0xFB, .ddOther 0xF3, .fdOther 0xFB, .fdOther 0xF3] →
      t.iff2 = s.iff2 ∧ (i ∉ [.retn, .reti] → t.iff1 = s.iff1)) ∧
    (i ∉ [.ei, .ddOther 0xFB, .fdOther 0xFB] ∨ s.cfg.eiDelay = false → t.eiPending = s.eiPending)

/-- Whatever the instruction, the port events after it are those before it followed by at most one more; only the port
instructions (and IN A,(n) or OUT (n),A after DD or FD) add one. (Derived; R79, R80.) -/
def Obligations.PortEventsInOrder : Prop :=
  ∀ (i : Instr) (s t : State), exec i s = .next t →
    (t.portLog = s.portLog ∨ ∃ x, t.portLog = s.portLog ++ [x]) ∧
    ((∀ n, i ≠ .inAIndN n ∧ i ≠ .outIndNA n) → (∀ q, i ≠ .inRIndC q ∧ i ≠ .outIndCR q) →
      i ∉ [.ini, .inir, .ind, .indr, .outi, .otir, .outd, .otdr, .ddOther 0xDB, .ddOther 0xD3, .fdOther 0xDB, .fdOther 0xD3] →
      t.portLog = s.portLog ∧ t.portIn = s.portIn)

/-- A byte write at or above P_ROM_BOUNDARY is read back at its address and leaves every other byte; one below it
leaves all memory; a word write at an address puts the low byte there and the high byte at the next address modulo
65536; and a word read puts them together again. (Derived; R71, R72, R73.) -/
def Obligations.MemoryReadAfterWrite : Prop :=
  ∀ (s : State) (addr : Word), Memory.wf s.mem = true →
    (∀ v : Byte, StoredByte s (s.write8 addr v) addr v ∧ (addr.toNat < s.cfg.romBoundary → s.write8 addr v = s)) ∧
    (∀ v : Word, StoredWord s (s.write16 addr v) addr v) ∧
    (s.read16 addr).toNat = 256 * (s.read8 (addr + 1)).toNat + (s.read8 addr).toNat

/-- Two memories in the model's canonical form (log entry 1) that give the same byte at each of the 65,536 addresses
are the same list, and every write keeps the form. (Derived; R71.) -/
def Obligations.MemoryCanonical : Prop :=
  (∀ m m' : List Host.Cell, Memory.wf m = true → Memory.wf m' = true →
    (∀ a < 65536, Memory.get m a = Memory.get m' a) → m = m') ∧
  (∀ (s : State) (addr : Word) (v : Byte), Memory.wf s.mem = true → Memory.wf (s.write8 addr v).mem = true)

/-- Push16 moves SP down by 2 and writes the high byte at SP-1 and the low byte at SP-2, leaving every other byte;
after it, unless a write was ignored, Pop16 returns the value pushed and restores SP. Pop16 in any state returns
the word at SP, low byte first, and only moves SP up by 2. (That the stack grows down, high byte first, is the
spec's general knowledge, log entry 9.) (Derived; R76, R77.) -/
def Obligations.PushThenPop : Prop :=
  ∀ (s : State) (v : Word), Memory.wf s.mem = true →
    s.push16 v = { s with sp := s.sp - 2, mem := (s.push16 v).mem } ∧ StoredWord s (s.push16 v) (s.sp - 2) v ∧
    s.popped.toNat = 256 * (s.read8 (s.sp + 1)).toNat + (s.read8 s.sp).toNat ∧ s.pop16 = { s with sp := s.sp + 2 } ∧
    (s.cfg.romBoundary ≤ (s.sp - 1).toNat → s.cfg.romBoundary ≤ (s.sp - 2).toNat →
      (s.push16 v).popped = v ∧ (s.push16 v).pop16.sp = s.sp ∧ ∀ a, (s.push16 v).pop16.read8 a = (s.push16 v).read8 a)

/-- The effective address of an indexed operand and the target of a relative jump are the index register and PC plus
the displacement read as a signed byte, modulo 65536. (Derived; R111, R112, R431.) -/
def Obligations.SignedDisplacements : Prop :=
  ∀ (s : State) (x : Index) (d : Byte),
    ((s.ea x d).toNat : Int) = ((s.index x).toNat + d.toInt) % 65536 ∧ RelativeTarget s d (s.relative d)

/-- Writing a pair writes both its bytes, reading it puts the first byte in the high half, and the pair names read BC,
DE, HL, SP, AF and the index register. The field codes are those of the spec, for the decoder and the encoder:
registers 0 to 5 and 7 with 6 the memory operand, the three kinds of pair, the eight conditions, the four
conditions of JR, the eight rotates and shifts, and bit numbers and restart fields as themselves. (Several codes
are the spec's general knowledge, log entry 9.) (Derived; R33, R34, R102, R103, R104, R105, R106, R108, R123.) -/
def Obligations.ViewsCoherent : Prop :=
  ∀ (s : State) (v : Word) (x : Index),
    (s.bc.toNat = 256 * s.b.toNat + s.c.toNat ∧ s.de.toNat = 256 * s.d.toNat + s.e.toNat ∧
      s.hl.toNat = 256 * s.h.toNat + s.l.toNat ∧ s.af.toNat = 256 * s.a.toNat + s.f.toNat) ∧
    (s.setBc v).bc = v ∧ (s.setDe v).de = v ∧ (s.setHl v).hl = v ∧ (s.setAf v).af = v ∧
    [Pair.bc, .de, .hl, .sp].map s.pair = [s.bc, s.de, s.hl, s.sp] ∧
    [StackPair.bc, .de, .hl, .af].map s.stackPair = [s.bc, s.de, s.hl, s.af] ∧
    [IndexPair.bc, .de, .xy, .sp].map (s.indexPair x) = [s.bc, s.de, s.index x, s.sp] ∧
    ([0, 1, 2, 3, 4, 5, 6, 7].map Reg8.ofCode =
        [some .b, some .c, some .d, some .e, some .h, some .l, none, some .a] ∧
      [Reg8.b, .c, .d, .e, .h, .l, .a].map Reg8.code = [0, 1, 2, 3, 4, 5, 7]) ∧
    ([0, 1, 2, 3].map Pair.ofCode = [.bc, .de, .hl, .sp] ∧
      [Pair.bc, .de, .hl, .sp].map Pair.code = [0, 1, 2, 3]) ∧
    ([0, 1, 2, 3].map StackPair.ofCode = [.bc, .de, .hl, .af] ∧
      [StackPair.bc, .de, .hl, .af].map StackPair.code = [0, 1, 2, 3]) ∧
    ([0, 1, 2, 3].map IndexPair.ofCode = [.bc, .de, .xy, .sp] ∧
      [IndexPair.bc, .de, .xy, .sp].map IndexPair.code = [0, 1, 2, 3]) ∧
    ([0, 1, 2, 3, 4, 5, 6, 7].map Cond.ofCode = [.nz, .z, .nc, .c, .po, .pe, .p, .m] ∧
      [Cond.nz, .z, .nc, .c, .po, .pe, .p, .m].map Cond.code = [0, 1, 2, 3, 4, 5, 6, 7]) ∧
    ([JrCond.nz, .z, .nc, .c].map JrCond.code = [0, 1, 2, 3] ∧
      [JrCond.nz, .z, .nc, .c].map jrCond = [.nz, .z, .nc, .c] ∧
      ∀ (cc : JrCond) (e : Byte), decode4 (0x20 + 8 * cc.code) e 0x00 0x00 = .jrCE cc e) ∧
    ([0, 1, 2, 3, 4, 5, 6, 7].map Rot.ofCode = [.rlc, .rrc, .rl, .rr, .sla, .sra, .sll, .srl] ∧
      [Rot.rlc, .rrc, .rl, .rr, .sla, .sra, .sll, .srl].map Rot.code = [0, 1, 2, 3, 4, 5, 6, 7]) ∧
    (∀ k : Fin 8, (bitCode k).toNat = k.val)

/-- Parity is 1 exactly when the exclusive or of the eight bits is 0; each condition holds as its code says: (F AND
mask) ≠ 0 equals the code's low bit, with mask Z, C, P/V, S for the code pairs. (Stated; R151, R166.) -/
def Obligations.ParityAndConditions : Prop :=
  (∀ v : Byte, parity v = !(v[0] ^^ v[1] ^^ v[2] ^^ v[3] ^^ v[4] ^^ v[5] ^^ v[6] ^^ v[7])) ∧
  (∀ (cc : Cond) (f : Byte),
    condHolds cc f = (((f &&& [0x40, 0x01, 0x04, 0x80].getD (cc.code.toNat / 2) 0) != 0) == (cc.code.toNat % 2 == 1)))

/-- LD r,r', LD r,n, LD r,(HL), LD A,(BC), LD A,(DE), LD A,(nn), LD r,(IX+d) and LD r,(IY+d) complete in every state:
the destination register takes the source, every other register, flag and byte is unchanged, and R gains the
credit. (Derived; R200, R201, R202, R205, R206, R207, R443, R42.) -/
def Obligations.LoadRegister : Prop :=
  ∀ (s : State) (q q' : Reg8) (n d : Byte) (nn : Word),
    LoadsReg s (.ldRR q q') q (s.reg q') (s.cost 200 false 4) ∧
    LoadsReg s (.ldRN q n) q n (s.cost 201 false 7) ∧
    LoadsReg s (.ldRIndHl q) q (s.read8 s.hl) (s.cost 202 false 7) ∧
    LoadsReg s .ldAIndBc .a (s.read8 s.bc) (s.cost 205 false 7) ∧
    LoadsReg s .ldAIndDe .a (s.read8 s.de) (s.cost 206 false 7) ∧
    LoadsReg s (.ldAIndNn nn) .a (s.read8 nn) (s.cost 207 false 13) ∧
    LoadsReg s (.ldRIndIxD q d) q (s.read8 (s.ea .ix d)) (s.cost 443 false 19) ∧
    LoadsReg s (.ldRIndIyD q d) q (s.read8 (s.ea .iy d)) (s.cost 443 false 19)

/-- LD (HL),r, LD (HL),n, LD (BC),A, LD (DE),A, LD (nn),A and the stores through (IX+d) and (IY+d) complete in every
state with memory in canonical form: the byte at the address reads as the source unless it lies below
P_ROM_BOUNDARY, every other byte, register and flag is unchanged, and R gains the credit. (Derived; R203, R204,
R208, R209, R210, R444, R445, R72.) -/
def Obligations.StoreByte : Prop :=
  ∀ (s : State) (q : Reg8) (n d : Byte) (nn : Word), Memory.wf s.mem = true →
    StoresByte s (.ldIndHlR q) s.hl (s.reg q) (s.cost 203 false 7) ∧
    StoresByte s (.ldIndHlN n) s.hl n (s.cost 204 false 10) ∧
    StoresByte s .ldIndBcA s.bc s.a (s.cost 208 false 7) ∧
    StoresByte s .ldIndDeA s.de s.a (s.cost 209 false 7) ∧
    StoresByte s (.ldIndNnA nn) nn s.a (s.cost 210 false 13) ∧
    StoresByte s (.ldIndIxDR d q) (s.ea .ix d) (s.reg q) (s.cost 444 false 19) ∧
    StoresByte s (.ldIndIxDN d n) (s.ea .ix d) n (s.cost 445 false 19) ∧
    StoresByte s (.ldIndIyDR d q) (s.ea .iy d) (s.reg q) (s.cost 444 false 19) ∧
    StoresByte s (.ldIndIyDN d n) (s.ea .iy d) n (s.cost 445 false 19)

/-- The 16-bit loads of a pair, HL, SP, IX or IY, and INC and DEC of a pair, IX or IY, complete in every state: the
destination takes the source or its value plus or minus 1 modulo 65536, no flag and no other register or byte
changes, and R gains the credit. (Derived; R211, R212, R214, R283, R284, R385, R432, R433, R435, R440, R441, R74.) -/
def Obligations.LoadPair : Prop :=
  ∀ (s : State) (p : Pair) (nn : Word),
    LoadsPair s (.ldDdNn p nn) p nn (s.cost 211 false 10) ∧
    LoadsPair s (.ldHlIndNn nn) .hl (s.read16 nn) (s.cost 212 false 16) ∧
    LoadsPair s (.ldDdIndNn p nn) p (s.read16 nn) (s.cost 385 false 20) ∧
    LoadsPair s .ldSpHl .sp s.hl (s.cost 214 false 6) ∧
    LoadsPair s (.incSs p) p (s.pair p + 1) (s.cost 283 false 6) ∧
    LoadsPair s (.decSs p) p (s.pair p - 1) (s.cost 284 false 6) ∧
    LoadsPair s .ldSpIx .sp (s.index .ix) (s.cost 435 false 10) ∧
    LoadsIndex s (.ldIxNn nn) .ix nn (s.cost 432 false 14) ∧
    LoadsIndex s (.ldIxIndNn nn) .ix (s.read16 nn) (s.cost 433 false 20) ∧
    LoadsIndex s .incIx .ix (s.index .ix + 1) (s.cost 440 false 10) ∧
    LoadsIndex s .decIx .ix (s.index .ix - 1) (s.cost 441 false 10) ∧
    LoadsPair s .ldSpIy .sp (s.index .iy) (s.cost 435 false 10) ∧
    LoadsIndex s (.ldIyNn nn) .iy nn (s.cost 432 false 14) ∧
    LoadsIndex s (.ldIyIndNn nn) .iy (s.read16 nn) (s.cost 433 false 20) ∧
    LoadsIndex s .incIy .iy (s.index .iy + 1) (s.cost 440 false 10) ∧
    LoadsIndex s .decIy .iy (s.index .iy - 1) (s.cost 441 false 10)

/-- LD (nn),HL, LD (nn),dd, LD (nn),IX and LD (nn),IY store the low byte at nn and the high byte at the next address;
PUSH qq, PUSH IX and PUSH IY lower SP by 2 and store the word there. In every state with memory in canonical form
they complete, every other byte, register and flag is unchanged, and R gains the credit. (Derived; R213, R215,
R384, R434, R436, R73, R74, R76.) -/
def Obligations.StoreWordAndPush : Prop :=
  ∀ (s : State) (p : Pair) (q : StackPair) (nn : Word), Memory.wf s.mem = true →
    StoresWord s (.ldIndNnHl nn) nn s.hl (s.cost 213 false 16) ∧
    StoresWord s (.ldIndNnDd p nn) nn (s.pair p) (s.cost 384 false 20) ∧
    StoresWord s (.ldIndNnIx nn) nn (s.index .ix) (s.cost 434 false 20) ∧
    StoresWord s (.ldIndNnIy nn) nn (s.index .iy) (s.cost 434 false 20) ∧
    Pushes s (.pushQq q) (s.stackPair q) (s.cost 215 false 11) ∧
    Pushes s .pushIx (s.index .ix) (s.cost 436 false 15) ∧
    Pushes s .pushIy (s.index .iy) (s.cost 436 false 15)

/-- POP qq, POP IX and POP IY complete in every state: the pair takes the word at SP, low byte first, SP moves up by
2, and no other register, flag or byte changes; POP AF writes A and all eight bits of F, the others no flag. R
gains the credit. (Derived; R216, R437, R77, R34.) -/
def Obligations.PopInstructions : Prop :=
  ∀ s : State,
    (∀ q : StackPair, ∃ t, exec (.popQq q) s = .next t ∧
      t = { s with
        a := t.a, f := t.f, b := t.b, c := t.c, d := t.d, e := t.e, h := t.h, l := t.l, sp := s.sp + 2, r := t.r } ∧
      (t.stackPair q).toNat = 256 * (s.read8 (s.sp + 1)).toNat + (s.read8 s.sp).toNat ∧
      (∀ p, p ≠ q → t.stackPair p = s.stackPair p) ∧ Credited s t (s.cost 216 false 10)) ∧
    (∃ t, exec .popIx s = .next t ∧ t = { s with ix := t.ix, sp := s.sp + 2, r := t.r } ∧
      t.ix.toNat = 256 * (s.read8 (s.sp + 1)).toNat + (s.read8 s.sp).toNat ∧ Credited s t (s.cost 437 false 14)) ∧
    (∃ t, exec .popIy s = .next t ∧ t = { s with iy := t.iy, sp := s.sp + 2, r := t.r } ∧
      t.iy.toNat = 256 * (s.read8 (s.sp + 1)).toNat + (s.read8 s.sp).toNat ∧ Credited s t (s.cost 437 false 14))

/-- EX DE,HL, EX AF,AF' and EXX complete in every state and exchange exactly the registers they name; EX (SP),HL, EX
(SP),IX and EX (SP),IY, with memory in canonical form, exchange the register with the word at SP, which is stored
unless the write is ignored, and leave SP. Nothing else changes but R's credit. (Derived; R217, R218, R219, R220,
R438.) -/
def Obligations.Exchanges : Prop :=
  ∀ s : State,
    (∃ t, exec .exDeHl s = .next t ∧ t = { s with d := s.h, e := s.l, h := s.d, l := s.e, r := t.r } ∧
      Credited s t (s.cost 217 false 4)) ∧
    (∃ t, exec .exAfAf s = .next t ∧ t = { s with a := s.a', f := s.f', a' := s.a, f' := s.f, r := t.r } ∧
      Credited s t (s.cost 218 false 4)) ∧
    (∃ t, exec .exx s = .next t ∧
      t = { s with
        b := s.b', c := s.c', d := s.d', e := s.e', h := s.h', l := s.l'
        b' := s.b, c' := s.c, d' := s.d, e' := s.e, h' := s.h, l' := s.l, r := t.r } ∧
      Credited s t (s.cost 219 false 4)) ∧
    (Memory.wf s.mem = true →
      (∃ t, exec .exIndSpHl s = .next t ∧
        t = { s with h := s.read8 (s.sp + 1), l := s.read8 s.sp, mem := t.mem, r := t.r } ∧
        StoredWord s t s.sp s.hl ∧ Credited s t (s.cost 220 false 19)) ∧
      (∃ t, exec .exIndSpIx s = .next t ∧ t = { s with ix := t.ix, mem := t.mem, r := t.r } ∧
        t.ix.toNat = 256 * (s.read8 (s.sp + 1)).toNat + (s.read8 s.sp).toNat ∧
        StoredWord s t s.sp s.ix ∧ Credited s t (s.cost 438 false 23)) ∧
      (∃ t, exec .exIndSpIy s = .next t ∧ t = { s with iy := t.iy, mem := t.mem, r := t.r } ∧
        t.iy.toNat = 256 * (s.read8 (s.sp + 1)).toNat + (s.read8 s.sp).toNat ∧
        StoredWord s t s.sp s.iy ∧ Credited s t (s.cost 438 false 23)))

/-- In all five operand forms ADD A,x and ADC A,x complete in every state: A is the exact sum with the incoming carry
(0 for ADD, C for ADC) modulo 256; S, Z, the half carry, the two's-complement overflow, N = 0 and the carry are
those of the exact sum; bits 5 and 3 of F and everything else are unchanged, and R gains the credit. (Stated;
R152.) -/
def Obligations.AddWithAndWithoutCarry : Prop :=
  ∀ (s : State) (q : Reg8) (n d : Byte),
    Adds s (.addAR q) (s.reg q) false (s.cost 250 false 4) ∧
    Adds s (.addAN n) n false (s.cost 251 false 7) ∧
    Adds s .addAIndHl (s.read8 s.hl) false (s.cost 252 false 7) ∧
    Adds s (.addAIndIxD d) (s.read8 (s.ea .ix d)) false (s.cost 446 false 19) ∧
    Adds s (.addAIndIyD d) (s.read8 (s.ea .iy d)) false (s.cost 446 false 19) ∧
    Adds s (.adcAR q) (s.reg q) s.f[0] (s.cost 253 false 4) ∧
    Adds s (.adcAN n) n s.f[0] (s.cost 254 false 7) ∧
    Adds s .adcAIndHl (s.read8 s.hl) s.f[0] (s.cost 255 false 7) ∧
    Adds s (.adcAIndIxD d) (s.read8 (s.ea .ix d)) s.f[0] (s.cost 447 false 19) ∧
    Adds s (.adcAIndIyD d) (s.read8 (s.ea .iy d)) s.f[0] (s.cost 447 false 19)

/-- In all five operand forms SUB x, SBC A,x and CP x complete in every state: A (for CP, nothing) takes the exact
difference less the incoming borrow (0 for SUB and CP, C for SBC) modulo 256; S, Z, the half borrow, the
two's-complement overflow, N = 1 and the borrow are those of the exact difference; bits 5 and 3 of F and
everything else are unchanged, and R gains the credit. (Stated; R153.) -/
def Obligations.SubtractAndCompare : Prop :=
  ∀ (s : State) (q : Reg8) (n d : Byte),
    Subtracts s (.subR q) (s.reg q) false true (s.cost 256 false 4) ∧
    Subtracts s (.subN n) n false true (s.cost 257 false 7) ∧
    Subtracts s .subIndHl (s.read8 s.hl) false true (s.cost 258 false 7) ∧
    Subtracts s (.subIndIxD d) (s.read8 (s.ea .ix d)) false true (s.cost 448 false 19) ∧
    Subtracts s (.subIndIyD d) (s.read8 (s.ea .iy d)) false true (s.cost 448 false 19) ∧
    Subtracts s (.sbcAR q) (s.reg q) s.f[0] true (s.cost 259 false 4) ∧
    Subtracts s (.sbcAN n) n s.f[0] true (s.cost 260 false 7) ∧
    Subtracts s .sbcAIndHl (s.read8 s.hl) s.f[0] true (s.cost 261 false 7) ∧
    Subtracts s (.sbcAIndIxD d) (s.read8 (s.ea .ix d)) s.f[0] true (s.cost 449 false 19) ∧
    Subtracts s (.sbcAIndIyD d) (s.read8 (s.ea .iy d)) s.f[0] true (s.cost 449 false 19) ∧
    Subtracts s (.cpR q) (s.reg q) false false (s.cost 271 false 4) ∧
    Subtracts s (.cpN n) n false false (s.cost 272 false 7) ∧
    Subtracts s .cpIndHl (s.read8 s.hl) false false (s.cost 273 false 7) ∧
    Subtracts s (.cpIndIxD d) (s.read8 (s.ea .ix d)) false false (s.cost 453 false 19) ∧
    Subtracts s (.cpIndIyD d) (s.read8 (s.ea .iy d)) false false (s.cost 453 false 19)

/-- In all five operand forms AND x, XOR x and OR x complete in every state: A takes the bitwise result; S, Z and the
parity are those of the result, H is 1 for AND and 0 for the others, N = C = 0; bits 5 and 3 of F and everything
else are unchanged, and R gains the credit. (Stated; R154, R155, R156.) -/
def Obligations.Logic : Prop :=
  ∀ (s : State) (q : Reg8) (n d : Byte),
    Logics s (.andR q) (s.a &&& (s.reg q)) true (s.cost 262 false 4) ∧
    Logics s (.andN n) (s.a &&& n) true (s.cost 263 false 7) ∧
    Logics s .andIndHl (s.a &&& (s.read8 s.hl)) true (s.cost 264 false 7) ∧
    Logics s (.andIndIxD d) (s.a &&& (s.read8 (s.ea .ix d))) true (s.cost 450 false 19) ∧
    Logics s (.andIndIyD d) (s.a &&& (s.read8 (s.ea .iy d))) true (s.cost 450 false 19) ∧
    Logics s (.xorR q) (s.a ^^^ (s.reg q)) false (s.cost 265 false 4) ∧
    Logics s (.xorN n) (s.a ^^^ n) false (s.cost 266 false 7) ∧
    Logics s .xorIndHl (s.a ^^^ (s.read8 s.hl)) false (s.cost 267 false 7) ∧
    Logics s (.xorIndIxD d) (s.a ^^^ (s.read8 (s.ea .ix d))) false (s.cost 451 false 19) ∧
    Logics s (.xorIndIyD d) (s.a ^^^ (s.read8 (s.ea .iy d))) false (s.cost 451 false 19) ∧
    Logics s (.orR q) (s.a ||| (s.reg q)) false (s.cost 268 false 4) ∧
    Logics s (.orN n) (s.a ||| n) false (s.cost 269 false 7) ∧
    Logics s .orIndHl (s.a ||| (s.read8 s.hl)) false (s.cost 270 false 7) ∧
    Logics s (.orIndIxD d) (s.a ||| (s.read8 (s.ea .ix d))) false (s.cost 452 false 19) ∧
    Logics s (.orIndIyD d) (s.a ||| (s.read8 (s.ea .iy d))) false (s.cost 452 false 19)

/-- INC and DEC of a register complete in every state, and of a byte at HL, IX+d or IY+d in every state with memory in
canonical form: the operand is one more or less modulo 256, S, Z, H, P/V and N are as R157 and R158 say, C and
bits 5 and 3 are unchanged, and F is written even where the store is ignored. Everything else is unchanged but R's
credit. (Stated; R157, R158.) -/
def Obligations.IncrementDecrement8 : Prop :=
  ∀ (s : State) (q : Reg8) (d : Byte),
    ChangesReg s (.incR q) q (s.reg q + 1) IncFlags (s.cost 274 false 4) ∧
    ChangesReg s (.decR q) q (s.reg q - 1) DecFlags (s.cost 276 false 4) ∧
    (Memory.wf s.mem = true →
      ChangesMem s .incIndHl s.hl (s.read8 s.hl + 1) IncFlags (s.cost 275 false 11) ∧
      ChangesMem s .decIndHl s.hl (s.read8 s.hl - 1) DecFlags (s.cost 277 false 11) ∧
      ChangesMem s (.incIndIxD d) (s.ea .ix d) (s.read8 (s.ea .ix d) + 1) IncFlags (s.cost 454 false 23) ∧
      ChangesMem s (.decIndIxD d) (s.ea .ix d) (s.read8 (s.ea .ix d) - 1) DecFlags (s.cost 455 false 23) ∧
      ChangesMem s (.incIndIyD d) (s.ea .iy d) (s.read8 (s.ea .iy d) + 1) IncFlags (s.cost 454 false 23) ∧
      ChangesMem s (.decIndIyD d) (s.ea .iy d) (s.read8 (s.ea .iy d) - 1) DecFlags (s.cost 455 false 23))

/-- DAA completes in every state: A is corrected by 0x06 when H is set or the low digit is above 9 and by 0x60 when C
is set or A is above 0x99, added when N is 0 and subtracted when N is 1; S, Z and the parity are those of the
result, H is the digit carry or borrow, N is unchanged, C is set by the 0x60 condition. Everything else is
unchanged but R's credit. (The algorithm is the spec's decision D32 from general knowledge, log entry 9.)
(Derived; R165.) -/
def Obligations.DecimalAdjust : Prop :=
  ∀ s : State,
    let low : Nat := s.a.toNat % 16
    let corr : Nat := (if s.f[4] ∨ 9 < low then 6 else 0) + (if s.f[0] ∨ 0x99 < s.a.toNat then 0x60 else 0)
    ∃ t, exec .daa s = .next t ∧ t = { s with a := t.a, f := t.f, r := t.r } ∧
      (t.a.toNat : Int) = (if s.f[1] then (s.a.toNat : Int) - corr else (s.a.toNat : Int) + corr) % 256 ∧
      FlagsAre s.f t.f t.a[7] (t.a == 0)
        (if s.f[1] then s.f[4] && decide (low < 6) else decide (9 < low))
        (parity t.a) s.f[1] (s.f[0] || decide (0x99 < s.a.toNat)) ∧
      Credited s t (s.cost 278 false 4)

/-- CPL, SCF, CCF and NEG complete in every state: CPL complements A and sets H and N; SCF sets C and clears H and N;
CCF inverts C, copies the old C to H and clears N; NEG subtracts A from 0 with the flags of that subtraction, so
P/V is set exactly for 0x80 and C exactly for a value other than 0. The flags not named, the other registers and
memory are unchanged, and R gains the credit. (Derived; R279, R280, R281, R386, R167.) -/
def Obligations.FlagInstructionsAndNeg : Prop :=
  ∀ s : State,
    (∃ t, exec .cpl s = .next t ∧ t = { s with a := ~~~s.a, f := t.f, r := t.r } ∧
      FlagsAre s.f t.f s.f[7] s.f[6] true s.f[2] true s.f[0] ∧ Credited s t (s.cost 279 false 4)) ∧
    (∃ t, exec .scf s = .next t ∧ t = { s with f := t.f, r := t.r } ∧
      FlagsAre s.f t.f s.f[7] s.f[6] false s.f[2] false true ∧ Credited s t (s.cost 280 false 4)) ∧
    (∃ t, exec .ccf s = .next t ∧ t = { s with f := t.f, r := t.r } ∧
      FlagsAre s.f t.f s.f[7] s.f[6] s.f[0] s.f[2] false (!s.f[0]) ∧ Credited s t (s.cost 281 false 4)) ∧
    (∃ t, exec .neg s = .next t ∧ t = { s with a := t.a, f := t.f, r := t.r } ∧
      (t.a.toNat : Int) = (0 - (s.a.toNat : Int)) % 256 ∧
      FlagsAre s.f t.f t.a[7] (s.a == 0) (decide (s.a.toNat % 16 ≠ 0)) (s.a == 0x80) true (s.a != 0) ∧
      Credited s t (s.cost 386 false 8))

/-- The 16-bit additions complete in every state: HL, IX or IY takes the sum modulo 65536, H is the carry from bit 11,
C the carry from bit 15, N is 0, and S, Z, P/V and bits 5 and 3 of F and everything else are unchanged but R's
credit. (Stated; R159.) -/
def Obligations.Add16 : Prop :=
  ∀ (s : State) (p : Pair) (pp : IndexPair),
    (∃ t, exec (.addHlSs p) s = .next t ∧ t = { s with h := t.h, l := t.l, f := t.f, r := t.r } ∧
      t.hl.toNat = (s.hl.toNat + (s.pair p).toNat) % 65536 ∧ Add16Flags s.f t.f s.hl (s.pair p) ∧
      Credited s t (s.cost 282 false 11)) ∧
    (∃ t, exec (.addIxPp pp) s = .next t ∧ t = { s with ix := t.ix, f := t.f, r := t.r } ∧
      t.ix.toNat = (s.ix.toNat + (s.indexPair .ix pp).toNat) % 65536 ∧ Add16Flags s.f t.f s.ix (s.indexPair .ix pp) ∧
      Credited s t (s.cost 439 false 15)) ∧
    (∃ t, exec (.addIyPp pp) s = .next t ∧ t = { s with iy := t.iy, f := t.f, r := t.r } ∧
      t.iy.toNat = (s.iy.toNat + (s.indexPair .iy pp).toNat) % 65536 ∧ Add16Flags s.f t.f s.iy (s.indexPair .iy pp) ∧
      Credited s t (s.cost 439 false 15))

/-- ADC HL,ss and SBC HL,ss complete in every state: HL takes the exact sum or difference with the incoming carry
modulo 65536; S, Z, the half carry or borrow at bit 11, the two's-complement overflow, N and the carry or borrow
are those of the exact result; bits 5 and 3 of F and everything else are unchanged but R's credit. (Stated; R160,
R161.) -/
def Obligations.AdcSbc16 : Prop :=
  ∀ (s : State) (p : Pair),
    (∃ t, exec (.adcHlSs p) s = .next t ∧ t = { s with h := t.h, l := t.l, f := t.f, r := t.r } ∧
      t.hl.toNat = (s.hl.toNat + (s.pair p).toNat + s.f[0].toNat) % 65536 ∧
      FlagsAre s.f t.f t.hl[15] (t.hl == 0)
        (decide (4095 < s.hl.toNat % 4096 + (s.pair p).toNat % 4096 + s.f[0].toNat))
        (overflows 16 (s.hl.toInt + (s.pair p).toInt + s.f[0].toNat)) false
        (decide (65535 < s.hl.toNat + (s.pair p).toNat + s.f[0].toNat)) ∧
      Credited s t (s.cost 383 false 15)) ∧
    (∃ t, exec (.sbcHlSs p) s = .next t ∧ t = { s with h := t.h, l := t.l, f := t.f, r := t.r } ∧
      (t.hl.toNat : Int) = ((s.hl.toNat : Int) - (s.pair p).toNat - s.f[0].toNat) % 65536 ∧
      FlagsAre s.f t.f t.hl[15] (t.hl == 0)
        (decide (s.hl.toNat % 4096 < (s.pair p).toNat % 4096 + s.f[0].toNat))
        (overflows 16 (s.hl.toInt - (s.pair p).toInt - s.f[0].toNat)) true
        (decide (s.hl.toNat < (s.pair p).toNat + s.f[0].toNat)) ∧
      Credited s t (s.cost 382 false 15))

/-- The accumulator rotates complete in every state: A's bits move left or right by one with the bit moved out, or the
old C, moved in; H = N = 0, C is the bit moved out; S, Z, P/V, bits 5 and 3 of F and everything else are unchanged
but R's credit. (The bit movements are the spec's general knowledge, log entry 9.) (Derived; R162.) -/
def Obligations.AccumulatorRotates : Prop :=
  ∀ s : State,
    (∃ t, exec .rlca s = .next t ∧ t = { s with a := t.a, f := t.f, r := t.r } ∧ MovedLeft s.a t.a s.a[7] ∧
      FlagsAre s.f t.f s.f[7] s.f[6] false s.f[2] false s.a[7] ∧ Credited s t (s.cost 285 false 4)) ∧
    (∃ t, exec .rla s = .next t ∧ t = { s with a := t.a, f := t.f, r := t.r } ∧ MovedLeft s.a t.a s.f[0] ∧
      FlagsAre s.f t.f s.f[7] s.f[6] false s.f[2] false s.a[7] ∧ Credited s t (s.cost 286 false 4)) ∧
    (∃ t, exec .rrca s = .next t ∧ t = { s with a := t.a, f := t.f, r := t.r } ∧ MovedRight s.a t.a s.a[0] ∧
      FlagsAre s.f t.f s.f[7] s.f[6] false s.f[2] false s.a[0] ∧ Credited s t (s.cost 287 false 4)) ∧
    (∃ t, exec .rra s = .next t ∧ t = { s with a := t.a, f := t.f, r := t.r } ∧ MovedRight s.a t.a s.f[0] ∧
      FlagsAre s.f t.f s.f[7] s.f[6] false s.f[2] false s.a[0] ∧ Credited s t (s.cost 288 false 4))

/-- JP nn, JP (HL), JP (IX), JP (IY) and JR e set PC to the target in every state; JP c,nn and JR c,e do so when the
condition holds and otherwise leave PC past the instruction. No flag, register or byte changes, and R gains the
credit of the path taken. (Derived; R300, R301, R302, R303, R304, R442, R111.) -/
def Obligations.Jumps : Prop :=
  ∀ (s : State) (nn : Word) (e : Byte),
    JumpsTo s (.jpNn nn) nn (s.cost 300 false 10) ∧ JumpsTo s .jpIndHl s.hl (s.cost 304 false 4) ∧
    JumpsTo s .jpIndIx s.ix (s.cost 442 false 8) ∧ JumpsTo s .jpIndIy s.iy (s.cost 442 false 8) ∧
    (∃ target, RelativeTarget s e target ∧ JumpsTo s (.jrE e) target (s.cost 302 false 12)) ∧
    (∀ cc : Cond,
      JumpsTo s (.jpCNn cc nn) (if condHolds cc s.f then nn else s.pc) (s.cost 301 false 10)) ∧
    (∀ cc : JrCond, ∃ target, RelativeTarget s e target ∧
      (if condHolds (jrCond cc) s.f then JumpsTo s (.jrCE cc e) target (s.cost 303 false 12)
       else JumpsTo s (.jrCE cc e) s.pc (s.cost 303 true 7)))

/-- DJNZ completes in every state: B is one less modulo 256; if it is then not 0, PC moves by the signed displacement
at cost 13, else PC stays past the instruction at cost 8. No flag and nothing else changes. (Derived; R305.) -/
def Obligations.Djnz : Prop :=
  ∀ (s : State) (e : Byte),
    ∃ t, exec (.djnzE e) s = .next t ∧ t = { s with b := t.b, pc := t.pc, r := t.r } ∧
      (t.b.toNat : Int) = ((s.b.toNat : Int) - 1) % 256 ∧
      (s.b ≠ 1 → RelativeTarget s e t.pc ∧ Credited s t 13) ∧ (s.b = 1 → t.pc = s.pc ∧ Credited s t 8)

/-- With memory in canonical form, CALL nn, a CALL c,nn whose condition holds, and RST p push the address past the
instruction and set PC to nn or to 8 times the restart field; a CALL c,nn whose condition fails changes only R's
credit. No flag and nothing else changes. (Derived; R306, R307, R310, R76, R123.) -/
def Obligations.CallsAndRestarts : Prop :=
  ∀ (s : State) (nn : Word) (k : Fin 8), Memory.wf s.mem = true →
    Calls s (.callNn nn) nn (s.cost 306 false 17) ∧
    (∀ cc : Cond,
      if condHolds cc s.f then Calls s (.callCNn cc nn) nn (s.cost 307 false 17)
      else JumpsTo s (.callCNn cc nn) s.pc (s.cost 307 true 10)) ∧
    (∃ target : Word, target.toNat = 8 * k.val ∧ Calls s (.rstP k) target (s.cost 310 false 11))

/-- RET, a RET c whose condition holds, RETN and RETI complete in every state: PC takes the word at SP, SP moves up by
2, and RETN and RETI copy IFF2 to IFF1; a RET c whose condition fails changes only R's credit. No flag, other
register or byte changes. (Derived; R308, R309, R387, R388, R77, R515.) -/
def Obligations.ReturnInstructions : Prop :=
  ∀ s : State,
    Returns s .ret s.iff1 (s.cost 308 false 10) ∧ Returns s .retn s.iff2 (s.cost 387 false 14) ∧ Returns s .reti s.iff2 (s.cost 388 false 14) ∧
    (∀ cc : Cond,
      if condHolds cc s.f then Returns s (.retC cc) s.iff1 (s.cost 309 false 11)
      else JumpsTo s (.retC cc) s.pc (s.cost 309 true 5))

/-- NOP, HALT, DI, EI, IM 0, IM 1 and IM 2 complete in every state: HALT sets the HALT latch, DI clears and EI sets
both flip-flops (EI also the latch under P_EI_DELAY), IM sets the interrupt mode, NOP nothing. Nothing else
changes but R's credit. (Derived; R311, R312, R313, R314, R389, R390, R391.) -/
def Obligations.ModeInstructions : Prop :=
  ∀ s : State,
    (∃ t, exec .nop s = .next t ∧ t = { s with r := t.r } ∧ Credited s t (s.cost 311 false 4)) ∧
    (∃ t, exec .halt s = .next t ∧ t = { s with halted := true, r := t.r } ∧ Credited s t (s.cost 312 false 4)) ∧
    (∃ t, exec .di s = .next t ∧ t = { s with iff1 := false, iff2 := false, r := t.r } ∧ Credited s t (s.cost 313 false 4)) ∧
    (∃ t, exec .ei s = .next t ∧
      t = { s with iff1 := true, iff2 := true, eiPending := s.cfg.eiDelay || s.eiPending, r := t.r } ∧
      Credited s t (s.cost 314 false 4)) ∧
    (∃ t, exec .im0 s = .next t ∧ t = { s with im := .im0, r := t.r } ∧ Credited s t (s.cost 389 false 8)) ∧
    (∃ t, exec .im1 s = .next t ∧ t = { s with im := .im1, r := t.r } ∧ Credited s t (s.cost 390 false 8)) ∧
    (∃ t, exec .im2 s = .next t ∧ t = { s with im := .im2, r := t.r } ∧ Credited s t (s.cost 391 false 8))

/-- IN A,(n) and IN r,(C) complete in every state: the read of port A with n, or BC, is noted, and the register takes
the byte the device answers (any byte once none is scheduled); IN r,(C) sets S, Z and parity of it with H = N = 0
and C kept, IN A,(n) no flag. OUT (n),A and OUT (C),r add the output event and change nothing else. R gains the
credit. (Derived; R315, R316, R380, R381, R78, R79, R80.) -/
def Obligations.PortInstructions : Prop :=
  ∀ (s : State) (n : Byte) (q : Reg8),
    (∃ t v, exec (.inAIndN n) s = .next t ∧ PortAnswer s v ∧
      t = { s with
        a := v, portLog := s.portLog ++ [.read (mkWord s.a n) v], portIn := s.portIn.tail, draws := t.draws, r := t.r } ∧
      Credited s t (s.cost 315 false 11)) ∧
    (∃ t v, exec (.inRIndC q) s = .next t ∧ PortAnswer s v ∧
      t = { s with
        a := t.a, b := t.b, c := t.c, d := t.d, e := t.e, h := t.h, l := t.l, f := t.f, r := t.r
        portLog := s.portLog ++ [.read s.bc v], portIn := s.portIn.tail, draws := t.draws } ∧
      OnlyReg s t q v ∧ FlagsAre s.f t.f v[7] (v == 0) false (parity v) false s.f[0] ∧ Credited s t (s.cost 380 false 12)) ∧
    (∃ t, exec (.outIndNA n) s = .next t ∧
      t = { s with portLog := s.portLog ++ [.write (mkWord s.a n) s.a], r := t.r } ∧ Credited s t (s.cost 316 false 11)) ∧
    (∃ t, exec (.outIndCR q) s = .next t ∧
      t = { s with portLog := s.portLog ++ [.write s.bc (s.reg q)], r := t.r } ∧ Credited s t (s.cost 381 false 12))

/-- RLC, RRC, RL, RR, SLA, SRA, SLL and SRL of a register complete in every state: the register's bits move as the
table of R163 says, S, Z and parity are those of the result, H = N = 0, C is the bit moved out; bits 5 and 3 of F
and everything else are unchanged but R's credit. (The bit movements but SLL's are the spec's general knowledge,
log entry 9.) (Derived; R163.) -/
def Obligations.RotateRegister : Prop :=
  ∀ (s : State) (q : Reg8),
    RotatesReg s (.rlcR q) .rlc q (s.cost 350 false 8) ∧
    RotatesReg s (.rrcR q) .rrc q (s.cost 352 false 8) ∧
    RotatesReg s (.rlR q) .rl q (s.cost 354 false 8) ∧
    RotatesReg s (.rrR q) .rr q (s.cost 356 false 8) ∧
    RotatesReg s (.slaR q) .sla q (s.cost 358 false 8) ∧
    RotatesReg s (.sraR q) .sra q (s.cost 360 false 8) ∧
    RotatesReg s (.sllR q) .sll q (s.cost 362 false 8) ∧
    RotatesReg s (.srlR q) .srl q (s.cost 364 false 8)

/-- Every rotate and shift of the byte at HL, IX+d or IY+d completes in every state with memory in canonical form: the
byte takes the result unless the store is ignored, the register named by a copy form takes it too, F is as for a
register, and everything else is unchanged but R's credit. (Derived; R163, R351, R353, R355, R357, R359, R361,
R363, R365, R456, R463, R464.) -/
def Obligations.RotateMemory : Prop :=
  ∀ (s : State) (o : Rot) (d : Byte) (q : Reg8), Memory.wf s.mem = true →
    RotatesMem s .rlcIndHl .rlc s.hl none (s.cost 351 false 15) ∧
    RotatesMem s .rrcIndHl .rrc s.hl none (s.cost 353 false 15) ∧
    RotatesMem s .rlIndHl .rl s.hl none (s.cost 355 false 15) ∧
    RotatesMem s .rrIndHl .rr s.hl none (s.cost 357 false 15) ∧
    RotatesMem s .slaIndHl .sla s.hl none (s.cost 359 false 15) ∧
    RotatesMem s .sraIndHl .sra s.hl none (s.cost 361 false 15) ∧
    RotatesMem s .sllIndHl .sll s.hl none (s.cost 363 false 15) ∧
    RotatesMem s .srlIndHl .srl s.hl none (s.cost 365 false 15) ∧
    RotatesMem s (.rlcIndIxD d) .rlc (s.ea .ix d) none (s.cost 456 false 23) ∧
    RotatesMem s (.rrcIndIxD d) .rrc (s.ea .ix d) none (s.cost 457 false 23) ∧
    RotatesMem s (.rlIndIxD d) .rl (s.ea .ix d) none (s.cost 458 false 23) ∧
    RotatesMem s (.rrIndIxD d) .rr (s.ea .ix d) none (s.cost 459 false 23) ∧
    RotatesMem s (.slaIndIxD d) .sla (s.ea .ix d) none (s.cost 460 false 23) ∧
    RotatesMem s (.sraIndIxD d) .sra (s.ea .ix d) none (s.cost 461 false 23) ∧
    RotatesMem s (.sllIndIxD d) .sll (s.ea .ix d) none (s.cost 462 false 23) ∧
    RotatesMem s (.srlIndIxD d) .srl (s.ea .ix d) none (s.cost 463 false 23) ∧
    RotatesMem s (.rlcIndIyD d) .rlc (s.ea .iy d) none (s.cost 456 false 23) ∧
    RotatesMem s (.rrcIndIyD d) .rrc (s.ea .iy d) none (s.cost 457 false 23) ∧
    RotatesMem s (.rlIndIyD d) .rl (s.ea .iy d) none (s.cost 458 false 23) ∧
    RotatesMem s (.rrIndIyD d) .rr (s.ea .iy d) none (s.cost 459 false 23) ∧
    RotatesMem s (.slaIndIyD d) .sla (s.ea .iy d) none (s.cost 460 false 23) ∧
    RotatesMem s (.sraIndIyD d) .sra (s.ea .iy d) none (s.cost 461 false 23) ∧
    RotatesMem s (.sllIndIyD d) .sll (s.ea .iy d) none (s.cost 462 false 23) ∧
    RotatesMem s (.srlIndIyD d) .srl (s.ea .iy d) none (s.cost 463 false 23) ∧
    RotatesMem s (.rotIndIxDR o d q) o (s.ea .ix d) (some q) (s.cost 464 false 23) ∧
    RotatesMem s (.rotIndIyDR o d q) o (s.ea .iy d) (some q) (s.cost 464 false 23)

/-- BIT b of a register or of the byte at HL, IX+d or IY+d (whatever the register field) completes in every state: Z
is the complement of the bit, H = 1, N = 0, C and bits 5 and 3 are unchanged, S and P/V are any value, and nothing
else is written but R's credit. It holds for every value of the free bits. (Stated; R164.) -/
def Obligations.TestBit : Prop :=
  ∀ (s : State) (b : Fin 8) (q : Reg8) (d : Byte) (reg : BitVec 3),
    TestsBit s (.bitBR b q) b (s.reg q) (s.cost 366 false 8) ∧
    TestsBit s (.bitBIndHl b) b (s.read8 s.hl) (s.cost 367 false 12) ∧
    TestsBit s (.bitBIndIxD b d reg) b (s.read8 (s.ea .ix d)) (s.cost 465 false 20) ∧
    TestsBit s (.bitBIndIyD b d reg) b (s.read8 (s.ea .iy d)) (s.cost 465 false 20)

/-- SET b and RES b of a register complete in every state, and of the byte at HL, IX+d or IY+d, with or without a
register copy, in every state with memory in canonical form: only bit b of the operand changes, to 1 or 0, no flag
changes, and everything else is unchanged but R's credit. (Derived; R368, R369, R370, R371, R466, R467, R468,
R469.) -/
def Obligations.SetAndResetBit : Prop :=
  ∀ (s : State) (b : Fin 8) (q : Reg8) (d : Byte),
    (∃ t v, exec (.setBR b q) s = .next t ∧
      t = { s with a := t.a, b := t.b, c := t.c, d := t.d, e := t.e, h := t.h, l := t.l, r := t.r } ∧
      BitIs (s.reg q) v b true ∧ OnlyReg s t q v ∧ Credited s t (s.cost 368 false 8)) ∧
    (∃ t v, exec (.resBR b q) s = .next t ∧
      t = { s with a := t.a, b := t.b, c := t.c, d := t.d, e := t.e, h := t.h, l := t.l, r := t.r } ∧
      BitIs (s.reg q) v b false ∧ OnlyReg s t q v ∧ Credited s t (s.cost 370 false 8)) ∧
    (Memory.wf s.mem = true →
      WritesBit s (.setBIndHl b) b true s.hl none (s.cost 369 false 15) ∧
      WritesBit s (.setBIndIxD b d) b true (s.ea .ix d) none (s.cost 467 false 23) ∧
      WritesBit s (.setBIndIxDR b d q) b true (s.ea .ix d) (some q) (s.cost 469 false 23) ∧
      WritesBit s (.setBIndIyD b d) b true (s.ea .iy d) none (s.cost 467 false 23) ∧
      WritesBit s (.setBIndIyDR b d q) b true (s.ea .iy d) (some q) (s.cost 469 false 23) ∧
      WritesBit s (.resBIndHl b) b false s.hl none (s.cost 371 false 15) ∧
      WritesBit s (.resBIndIxD b d) b false (s.ea .ix d) none (s.cost 466 false 23) ∧
      WritesBit s (.resBIndIxDR b d q) b false (s.ea .ix d) (some q) (s.cost 468 false 23) ∧
      WritesBit s (.resBIndIyD b d) b false (s.ea .iy d) none (s.cost 466 false 23) ∧
      WritesBit s (.resBIndIyDR b d q) b false (s.ea .iy d) (some q) (s.cost 468 false 23))

/-- They complete in every state: LD I,A copies A to I; LD R,A makes R[7] that of A and R[6:0] that of A plus the
instruction's own credit modulo 128; LD A,I and LD A,R copy I, or R before its own credit, to A, with S and Z of
it, H = N = 0, P/V = IFF2 and C kept. Everything else is unchanged but R's credit. (Derived; R392, R393, R394,
R395, R42.) -/
def Obligations.SpecialTransfers : Prop :=
  ∀ s : State,
    (∃ t, exec .ldIA s = .next t ∧ t = { s with i := s.a, r := t.r } ∧ Credited s t (s.cost 392 false 9)) ∧
    (∃ t, exec .ldRA s = .next t ∧ t = { s with r := t.r } ∧ t.r[7] = s.a[7] ∧
      t.r.toNat % 128 = (s.a.toNat % 128 + (s.cost 393 false 9 + 3) / 4) % 128) ∧
    (∃ t, exec .ldAI s = .next t ∧ t = { s with a := s.i, f := t.f, r := t.r } ∧
      FlagsAre s.f t.f s.i[7] (s.i == 0) false s.iff2 false s.f[0] ∧ Credited s t (s.cost 394 false 9)) ∧
    (∃ t, exec .ldAR s = .next t ∧ t = { s with a := s.r, f := t.f, r := t.r } ∧
      FlagsAre s.f t.f s.r[7] (s.r == 0) false s.iff2 false s.f[0] ∧ Credited s t (s.cost 395 false 9))

/-- With memory in canonical form RRD and RLD complete: the low digit of A and the two digits of the byte at HL rotate
right or left, the high digit of A stays, S, Z and parity are those of the new A, H = N = 0, C is kept, and
everything else is unchanged but R's credit. (Derived; R396, R397.) -/
def Obligations.NibbleRotates : Prop :=
  ∀ s : State, Memory.wf s.mem = true →
    (∃ t v, exec .rrd s = .next t ∧ t = { s with a := t.a, f := t.f, mem := t.mem, r := t.r } ∧
      v.toNat = 16 * (s.a.toNat % 16) + (s.read8 s.hl).toNat / 16 ∧ StoredByte s t s.hl v ∧
      t.a.toNat = 16 * (s.a.toNat / 16) + (s.read8 s.hl).toNat % 16 ∧
      FlagsAre s.f t.f t.a[7] (t.a == 0) false (parity t.a) false s.f[0] ∧ Credited s t (s.cost 396 false 18)) ∧
    (∃ t v, exec .rld s = .next t ∧ t = { s with a := t.a, f := t.f, mem := t.mem, r := t.r } ∧
      v.toNat = 16 * ((s.read8 s.hl).toNat % 16) + s.a.toNat % 16 ∧ StoredByte s t s.hl v ∧
      t.a.toNat = 16 * (s.a.toNat / 16) + (s.read8 s.hl).toNat / 16 ∧
      FlagsAre s.f t.f t.a[7] (t.a == 0) false (parity t.a) false s.f[0] ∧ Credited s t (s.cost 397 false 18))

/-- With memory in canonical form one step of each block transfer completes: the byte at HL is stored at DE, HL and DE
move by 1 in the form's direction and BC goes down by 1, all modulo 65536; H = N = 0, P/V says whether BC is then
not 0, the other flags are kept; a repeating form with BC then not 0 has PC two back and the cost of a repeat,
otherwise PC stays. Nothing else changes. (Derived; R398, R399, R400, R401, R414.) -/
def Obligations.BlockTransfers : Prop :=
  ∀ s : State, Memory.wf s.mem = true →
    MovesBlock s .ldi 1 false (s.cost 398 false 16) (s.cost 398 false 16) ∧
    MovesBlock s .ldir 1 true (s.cost 399 false 21) (s.cost 399 true 16) ∧
    MovesBlock s .ldd (-1) false (s.cost 400 false 16) (s.cost 400 false 16) ∧
    MovesBlock s .lddr (-1) true (s.cost 401 false 21) (s.cost 401 true 16)

/-- One step of each block compare completes in every state: HL moves by 1 in the form's direction and BC goes down by
1; S, Z and H are those of A minus the byte at the old HL, P/V says whether BC is then not 0, N = 1, C and A are
kept; a repeating form with BC then not 0 and the byte different from A has PC two back and the cost of a repeat,
otherwise PC stays. Nothing else changes. (Derived; R402, R403, R404, R405, R414.) -/
def Obligations.BlockCompares : Prop :=
  ∀ s : State,
    ComparesBlock s .cpi 1 false (s.cost 402 false 16) (s.cost 402 false 16) ∧
    ComparesBlock s .cpir 1 true (s.cost 403 false 21) (s.cost 403 true 16) ∧
    ComparesBlock s .cpd (-1) false (s.cost 404 false 16) (s.cost 404 false 16) ∧
    ComparesBlock s .cpdr (-1) true (s.cost 405 false 21) (s.cost 405 true 16)

/-- With memory in canonical form one step of each block I/O completes: an input reads port BC and stores the answer
at HL, an output writes the byte at HL to port BC after the decrement; B goes down by 1, HL moves by 1 in the
form's direction; Z says whether B is then 0, P/V whether BC is not 0, N = 1, C is kept and S and H are any value;
a repeating form goes on as P_BLOCKIO_REPEAT says, with PC two back. Nothing else changes. It holds for every
value of the free bits and of an unscheduled answer. (Derived; R406, R407, R408, R409, R410, R411, R412, R413,
R415, R416, R414.) -/
def Obligations.BlockInputOutput : Prop :=
  ∀ s : State, Memory.wf s.mem = true →
    InputsBlock s .ini 1 false (s.cost 406 false 16) (s.cost 406 false 16) ∧
    InputsBlock s .inir 1 true (s.cost 407 false 21) (s.cost 407 true 16) ∧
    InputsBlock s .ind (-1) false (s.cost 408 false 16) (s.cost 408 false 16) ∧
    InputsBlock s .indr (-1) true (s.cost 409 false 21) (s.cost 409 true 16) ∧
    OutputsBlock s .outi 1 false (s.cost 410 false 16) (s.cost 410 false 16) ∧
    OutputsBlock s .otir 1 true (s.cost 411 false 21) (s.cost 411 true 16) ∧
    OutputsBlock s .outd (-1) false (s.cost 412 false 16) (s.cost 412 false 16) ∧
    OutputsBlock s .otdr (-1) true (s.cost 413 false 21) (s.cost 413 true 16)

/-- An unrecognised ED, DD or FD sequence, and DD or FD before a byte of OTHER_SET under P_DDFD_OTHER = UNRECOGNISED,
completes with the HALT latch set and nothing else changed: no credit, no memory or port access, PC past the two
bytes. (Derived; R510, R471, R470.) -/
def Obligations.UnrecognisedHalts : Prop :=
  ∀ (s : State) (op : Byte),
    exec (.unrecEd op) s = .next { s with halted := true } ∧
    exec (.unrecDd op) s = .next { s with halted := true } ∧
    exec (.unrecFd op) s = .next { s with halted := true } ∧
    (s.cfg.ddfdOther = .unrecognised →
      exec (.ddOther op) s = .next { s with halted := true } ∧ exec (.fdOther op) s = .next { s with halted := true })

/-- Under P_DDFD_OTHER = ROOT, DD or FD before a byte of OTHER_SET completes: the byte and the operand bytes at PC
decode to a root instruction, and the result is that instruction's meaning with PC past its operands, but for 4
more T-states in the credit. (Derived; R470, R42.) -/
def Obligations.IgnoredIndexPrefix : Prop :=
  ∀ (s : State) (op : Byte), isOther op = true → s.cfg.ddfdOther = .root →
    ∃ i t u, decodeRoot op (s.read8 s.pc) (s.read8 (s.pc + 1)) = some i ∧
      exec i { s with pc := s.pc + BitVec.ofNat 16 (i.length - 1) } = .next t ∧
      exec (.ddOther op) s = .next u ∧ exec (.fdOther op) s = .next u ∧ u = { t with r := u.r } ∧ Credited t u 4

end Statements
end

