-- ==== Sys2Proof/Laws/Bits.lean ====
section
/-! SUPPORT. Byte order, and the bits of the flag byte one at a time. -/

namespace Sys2Proof

@[simp] theorem hiByte_mkWord (hi lo : Byte) : hiByte (mkWord hi lo) = hi := by
  apply BitVec.eq_of_getLsbD_eq; intro k hk
  simp only [hiByte, mkWord, BitVec.getLsbD_extractLsb', BitVec.getLsbD_append]
  have : ¬ 8 + k < 8 := by omega
  have : 8 + k - 8 = k := by omega
  simp_all

@[simp] theorem loByte_mkWord (hi lo : Byte) : loByte (mkWord hi lo) = lo := by
  apply BitVec.eq_of_getLsbD_eq; intro k hk
  simp only [loByte, mkWord, BitVec.getLsbD_extractLsb', BitVec.getLsbD_append]
  simp_all

@[simp] theorem mkWord_hiByte_loByte (w : Word) : mkWord (hiByte w) (loByte w) = w := by
  apply BitVec.eq_of_getLsbD_eq; intro k hk
  simp only [mkWord, hiByte, loByte, BitVec.getLsbD_append, BitVec.getLsbD_extractLsb']
  split
  · simp_all
  · have : k - 8 < 8 := by omega
    have : 8 + (k - 8) = k := by omega
    simp_all

theorem mkWord_toNat (hi lo : Byte) : (mkWord hi lo).toNat = 256 * hi.toNat + lo.toNat := by
  have h := lo.isLt
  simp only [mkWord, BitVec.toNat_append, Nat.shiftLeft_eq]
  rw [← Nat.shiftLeft_eq, ← Nat.shiftLeft_add_eq_or_of_lt (by simpa using h), Nat.shiftLeft_eq]
  omega

theorem mkWord_inj {hi lo hi' lo' : Byte} : mkWord hi lo = mkWord hi' lo' ↔ hi = hi' ∧ lo = lo' := by
  constructor
  · intro h
    exact ⟨by simpa using congrArg hiByte h, by simpa using congrArg loByte h⟩
  · rintro ⟨rfl, rfl⟩; rfl

/-- Adding a sign-extended byte adds its two's-complement value modulo 65536 (R111). -/
theorem add_sext16_toNat (a : Word) (e : Byte) : ((a + sext16 e).toNat : Int) = (a.toNat + e.toInt) % 65536 := by
  have h : (sext16 e).toInt = e.toInt := BitVec.toInt_signExtend_of_le (by decide)
  have h2 := BitVec.toInt_eq_toNat_bmod (sext16 e)
  have h3 : ((sext16 e).toNat : Int) % 65536 = e.toInt % 65536 := by
    rw [← h, h2]; exact Int.bmod_emod.symm
  rw [BitVec.toNat_add]
  push_cast
  omega

namespace Machine

/-- A flag bit is kept from the old byte or set by the new one (R150). -/
@[simp] theorem mergeFlags_bit (f keep new : Byte) (k : Nat) (hk : k < 8) :
    (mergeFlags f keep new)[k] = (f[k] && keep[k] || new[k]) := by
  simp [mergeFlags]

section NewFlags
variable (s z h pv n c : Bool)

@[simp] theorem newFlags_7 : (newFlags s z h pv n c)[7] = s := by revert s z h pv n c; decide
@[simp] theorem newFlags_6 : (newFlags s z h pv n c)[6] = z := by revert s z h pv n c; decide
@[simp] theorem newFlags_5 : (newFlags s z h pv n c)[5] = false := by revert s z h pv n c; decide
@[simp] theorem newFlags_4 : (newFlags s z h pv n c)[4] = h := by revert s z h pv n c; decide
@[simp] theorem newFlags_3 : (newFlags s z h pv n c)[3] = false := by revert s z h pv n c; decide
@[simp] theorem newFlags_2 : (newFlags s z h pv n c)[2] = pv := by revert s z h pv n c; decide
@[simp] theorem newFlags_1 : (newFlags s z h pv n c)[1] = n := by revert s z h pv n c; decide
@[simp] theorem newFlags_0 : (newFlags s z h pv n c)[0] = c := by revert s z h pv n c; decide

end NewFlags

/-- Bits 5 and 3 survive every mask that contains them (R53). -/
theorem mergeFlags_keeps_5_3 (f keep new : Byte) (hk : keep &&& maskXY = maskXY) (h5 : new[5] = false)
    (h3 : new[3] = false) : (mergeFlags f keep new)[5] = f[5] ∧ (mergeFlags f keep new)[3] = f[3] := by
  have k5 : keep[5] = true := by simpa [maskXY] using congrArg (·[5]) hk
  have k3 : keep[3] = true := by simpa [maskXY] using congrArg (·[3]) hk
  simp [k5, k3, h5, h3]

end Machine

end Sys2Proof
end

