-- ==== Sys2Proof/Laws/Memory.lean ====
section
/-! SUPPORT. Memory: a read after a write, the canonical form kept by every write, and equal memories from equal reads. -/

namespace Sys2Proof.Machine.Memory

theorem wfFrom_mono {lo lo' : Nat} (h : lo ≤ lo') {m : List Host.Cell} (hm : wfFrom lo' m = true) : wfFrom lo m = true := by
  cases m with
  | nil => rfl
  | cons cell rest =>
    obtain ⟨k, v⟩ := cell
    simp only [wfFrom, Bool.and_eq_true, decide_eq_true_eq] at hm ⊢
    exact ⟨⟨⟨by omega, hm.1.1.2⟩, hm.1.2⟩, hm.2⟩

/-- An address below every listed one reads as an unlisted one. -/
theorem get_of_lt {lo a : Nat} (h : a < lo) {m : List Host.Cell} (hm : wfFrom lo m = true) : get m a = unlisted := by
  cases m with
  | nil => rfl
  | cons cell rest =>
    obtain ⟨k, v⟩ := cell
    simp only [wfFrom, Bool.and_eq_true, decide_eq_true_eq] at hm
    have : a < k := by omega
    simp [get, this, Nat.ne_of_lt this]

theorem get_cons (a : Nat) (v : Byte) {m : List Host.Cell} (hm : wfFrom (a + 1) m = true) (x : Nat) :
    get (cons a v m) x = if x = a then v else if x < a then unlisted else get m x := by
  unfold cons
  split
  · next h =>
    split
    · next hx => subst hx; rw [h]; exact get_of_lt (by omega) hm
    · split
      · exact get_of_lt (by omega) hm
      · rfl
  · rfl

theorem wfFrom_cons {lo a : Nat} (v : Byte) {m : List Host.Cell} (hlo : lo ≤ a) (ha : a < size)
    (hm : wfFrom (a + 1) m = true) : wfFrom lo (cons a v m) = true := by
  unfold cons
  split
  · exact wfFrom_mono (by omega) hm
  · simp_all [wfFrom]

/-- A write keeps the canonical form. -/
theorem wfFrom_set {lo a : Nat} (v : Byte) {m : List Host.Cell} (hlo : lo ≤ a) (ha : a < size)
    (hm : wfFrom lo m = true) : wfFrom lo (set m a v) = true := by
  induction m generalizing lo with
  | nil => exact wfFrom_cons v hlo ha rfl
  | cons cell rest ih =>
    obtain ⟨k, w⟩ := cell
    have hm' := hm
    simp only [wfFrom, Bool.and_eq_true, decide_eq_true_eq] at hm'
    simp only [set]
    split
    · next h => subst h; exact wfFrom_cons v hlo ha hm'.2
    · split
      · exact wfFrom_cons v hlo ha (by simp [wfFrom, hm'.1.1.2, hm'.1.2, hm'.2]; omega)
      · simp only [wfFrom, Bool.and_eq_true, decide_eq_true_eq]
        exact ⟨hm'.1, ih (by omega) hm'.2⟩

theorem wf_set {a : Nat} (v : Byte) {m : List Host.Cell} (ha : a < size) (hm : wf m = true) : wf (set m a v) = true :=
  wfFrom_set v (Nat.zero_le a) ha hm

theorem get_set_from {lo a : Nat} (v : Byte) {m : List Host.Cell} (hm : wfFrom lo m = true) (x : Nat) (hlo : lo ≤ a) :
    get (set m a v) x = if x = a then v else get m x := by
  induction m generalizing lo with
  | nil => simp only [set, get_cons a v (m := []) rfl, get]; split <;> simp
  | cons cell rest ih =>
    obtain ⟨k, w⟩ := cell
    have hm' := hm
    simp only [wfFrom, Bool.and_eq_true, decide_eq_true_eq] at hm'
    simp only [set]
    split
    · next h =>
      subst h
      rw [get_cons _ _ hm'.2]
      by_cases hx : x = a
      · simp [hx]
      · simp only [hx, if_false, get]
    · next hne =>
      split
      · next hlt =>
        have hk : wfFrom (a + 1) ((k, w) :: rest) = true := by
          simp [wfFrom, hm'.1.1.2, hm'.1.2, hm'.2]; omega
        rw [get_cons _ _ hk]
        by_cases hx : x = a
        · simp [hx]
        · simp only [hx, if_false]
          by_cases hxa : x < a
          · rw [if_pos hxa, get_of_lt (lo := a + 1) (by omega) hk]
          · rw [if_neg hxa]
      · next hlt =>
        have hg := ih hm'.2 (by omega)
        simp only [get]
        by_cases hxk : x = k
        · simp [hxk]; omega
        · by_cases hxlt : x < k
          · have : x ≠ a := by omega
            simp [hxk, hxlt, this]
          · simp only [if_neg hxk, if_neg hxlt]; exact hg

/-- A read after a write: the byte written at its address, the old byte everywhere else. -/
theorem get_set {a : Nat} (v : Byte) {m : List Host.Cell} (hm : wf m = true) (x : Nat) :
    get (set m a v) x = if x = a then v else get m x :=
  get_set_from v hm x (Nat.zero_le a)

theorem get_ne_unlisted {lo k : Nat} {v : Byte} {rest : List Host.Cell} (hm : wfFrom lo ((k, v) :: rest) = true) :
    get ((k, v) :: rest) k ≠ unlisted := by
  simp only [wfFrom, Bool.and_eq_true, decide_eq_true_eq] at hm
  simpa [get] using hm.1.2

/-- An address that is not listed before a bound reads from the rest. -/
theorem get_tail {k a : Nat} (h : k < a) (v : Byte) (rest : List Host.Cell) : get ((k, v) :: rest) a = get rest a := by
  simp [get, Nat.ne_of_gt h, Nat.not_lt.mpr (Nat.le_of_lt h)]

theorem wf_nil : wf [] = true := rfl

theorem wf_load {a : Word} {bytes : List Byte} {m : List Host.Cell} (hm : wf m = true) : wf (load m a bytes) = true := by
  induction bytes generalizing m a with
  | nil => exact hm
  | cons v rest ih => exact ih (wf_set v (by simpa [size] using a.isLt) hm)

end Sys2Proof.Machine.Memory
end

