-- ==== Sys2Proof/Laws/State.lean ====
section
/-! SUPPORT. One lemma per field per update of the state, so that no proof unfolds a record update. -/

namespace Sys2Proof.Machine

variable (s : State)

/-! ## `setBc` -/

@[simp] theorem setBc_a (v : Word) : (s.setBc v).a = s.a := rfl
@[simp] theorem setBc_f (v : Word) : (s.setBc v).f = s.f := rfl
@[simp] theorem setBc_b (v : Word) : (s.setBc v).b = hiByte v := rfl
@[simp] theorem setBc_c (v : Word) : (s.setBc v).c = loByte v := rfl
@[simp] theorem setBc_d (v : Word) : (s.setBc v).d = s.d := rfl
@[simp] theorem setBc_e (v : Word) : (s.setBc v).e = s.e := rfl
@[simp] theorem setBc_h (v : Word) : (s.setBc v).h = s.h := rfl
@[simp] theorem setBc_l (v : Word) : (s.setBc v).l = s.l := rfl
@[simp] theorem setBc_a' (v : Word) : (s.setBc v).a' = s.a' := rfl
@[simp] theorem setBc_f' (v : Word) : (s.setBc v).f' = s.f' := rfl
@[simp] theorem setBc_b' (v : Word) : (s.setBc v).b' = s.b' := rfl
@[simp] theorem setBc_c' (v : Word) : (s.setBc v).c' = s.c' := rfl
@[simp] theorem setBc_d' (v : Word) : (s.setBc v).d' = s.d' := rfl
@[simp] theorem setBc_e' (v : Word) : (s.setBc v).e' = s.e' := rfl
@[simp] theorem setBc_h' (v : Word) : (s.setBc v).h' = s.h' := rfl
@[simp] theorem setBc_l' (v : Word) : (s.setBc v).l' = s.l' := rfl
@[simp] theorem setBc_i (v : Word) : (s.setBc v).i = s.i := rfl
@[simp] theorem setBc_r (v : Word) : (s.setBc v).r = s.r := rfl
@[simp] theorem setBc_ix (v : Word) : (s.setBc v).ix = s.ix := rfl
@[simp] theorem setBc_iy (v : Word) : (s.setBc v).iy = s.iy := rfl
@[simp] theorem setBc_sp (v : Word) : (s.setBc v).sp = s.sp := rfl
@[simp] theorem setBc_pc (v : Word) : (s.setBc v).pc = s.pc := rfl
@[simp] theorem setBc_iff1 (v : Word) : (s.setBc v).iff1 = s.iff1 := rfl
@[simp] theorem setBc_iff2 (v : Word) : (s.setBc v).iff2 = s.iff2 := rfl
@[simp] theorem setBc_im (v : Word) : (s.setBc v).im = s.im := rfl
@[simp] theorem setBc_halted (v : Word) : (s.setBc v).halted = s.halted := rfl
@[simp] theorem setBc_eiPending (v : Word) : (s.setBc v).eiPending = s.eiPending := rfl
@[simp] theorem setBc_mem (v : Word) : (s.setBc v).mem = s.mem := rfl
@[simp] theorem setBc_portLog (v : Word) : (s.setBc v).portLog = s.portLog := rfl
@[simp] theorem setBc_cfg (v : Word) : (s.setBc v).cfg = s.cfg := rfl
@[simp] theorem setBc_lines (v : Word) : (s.setBc v).lines = s.lines := rfl
@[simp] theorem setBc_portIn (v : Word) : (s.setBc v).portIn = s.portIn := rfl
@[simp] theorem setBc_draws (v : Word) : (s.setBc v).draws = s.draws := rfl

/-! ## `setDe` -/

@[simp] theorem setDe_a (v : Word) : (s.setDe v).a = s.a := rfl
@[simp] theorem setDe_f (v : Word) : (s.setDe v).f = s.f := rfl
@[simp] theorem setDe_b (v : Word) : (s.setDe v).b = s.b := rfl
@[simp] theorem setDe_c (v : Word) : (s.setDe v).c = s.c := rfl
@[simp] theorem setDe_d (v : Word) : (s.setDe v).d = hiByte v := rfl
@[simp] theorem setDe_e (v : Word) : (s.setDe v).e = loByte v := rfl
@[simp] theorem setDe_h (v : Word) : (s.setDe v).h = s.h := rfl
@[simp] theorem setDe_l (v : Word) : (s.setDe v).l = s.l := rfl
@[simp] theorem setDe_a' (v : Word) : (s.setDe v).a' = s.a' := rfl
@[simp] theorem setDe_f' (v : Word) : (s.setDe v).f' = s.f' := rfl
@[simp] theorem setDe_b' (v : Word) : (s.setDe v).b' = s.b' := rfl
@[simp] theorem setDe_c' (v : Word) : (s.setDe v).c' = s.c' := rfl
@[simp] theorem setDe_d' (v : Word) : (s.setDe v).d' = s.d' := rfl
@[simp] theorem setDe_e' (v : Word) : (s.setDe v).e' = s.e' := rfl
@[simp] theorem setDe_h' (v : Word) : (s.setDe v).h' = s.h' := rfl
@[simp] theorem setDe_l' (v : Word) : (s.setDe v).l' = s.l' := rfl
@[simp] theorem setDe_i (v : Word) : (s.setDe v).i = s.i := rfl
@[simp] theorem setDe_r (v : Word) : (s.setDe v).r = s.r := rfl
@[simp] theorem setDe_ix (v : Word) : (s.setDe v).ix = s.ix := rfl
@[simp] theorem setDe_iy (v : Word) : (s.setDe v).iy = s.iy := rfl
@[simp] theorem setDe_sp (v : Word) : (s.setDe v).sp = s.sp := rfl
@[simp] theorem setDe_pc (v : Word) : (s.setDe v).pc = s.pc := rfl
@[simp] theorem setDe_iff1 (v : Word) : (s.setDe v).iff1 = s.iff1 := rfl
@[simp] theorem setDe_iff2 (v : Word) : (s.setDe v).iff2 = s.iff2 := rfl
@[simp] theorem setDe_im (v : Word) : (s.setDe v).im = s.im := rfl
@[simp] theorem setDe_halted (v : Word) : (s.setDe v).halted = s.halted := rfl
@[simp] theorem setDe_eiPending (v : Word) : (s.setDe v).eiPending = s.eiPending := rfl
@[simp] theorem setDe_mem (v : Word) : (s.setDe v).mem = s.mem := rfl
@[simp] theorem setDe_portLog (v : Word) : (s.setDe v).portLog = s.portLog := rfl
@[simp] theorem setDe_cfg (v : Word) : (s.setDe v).cfg = s.cfg := rfl
@[simp] theorem setDe_lines (v : Word) : (s.setDe v).lines = s.lines := rfl
@[simp] theorem setDe_portIn (v : Word) : (s.setDe v).portIn = s.portIn := rfl
@[simp] theorem setDe_draws (v : Word) : (s.setDe v).draws = s.draws := rfl

/-! ## `setHl` -/

@[simp] theorem setHl_a (v : Word) : (s.setHl v).a = s.a := rfl
@[simp] theorem setHl_f (v : Word) : (s.setHl v).f = s.f := rfl
@[simp] theorem setHl_b (v : Word) : (s.setHl v).b = s.b := rfl
@[simp] theorem setHl_c (v : Word) : (s.setHl v).c = s.c := rfl
@[simp] theorem setHl_d (v : Word) : (s.setHl v).d = s.d := rfl
@[simp] theorem setHl_e (v : Word) : (s.setHl v).e = s.e := rfl
@[simp] theorem setHl_h (v : Word) : (s.setHl v).h = hiByte v := rfl
@[simp] theorem setHl_l (v : Word) : (s.setHl v).l = loByte v := rfl
@[simp] theorem setHl_a' (v : Word) : (s.setHl v).a' = s.a' := rfl
@[simp] theorem setHl_f' (v : Word) : (s.setHl v).f' = s.f' := rfl
@[simp] theorem setHl_b' (v : Word) : (s.setHl v).b' = s.b' := rfl
@[simp] theorem setHl_c' (v : Word) : (s.setHl v).c' = s.c' := rfl
@[simp] theorem setHl_d' (v : Word) : (s.setHl v).d' = s.d' := rfl
@[simp] theorem setHl_e' (v : Word) : (s.setHl v).e' = s.e' := rfl
@[simp] theorem setHl_h' (v : Word) : (s.setHl v).h' = s.h' := rfl
@[simp] theorem setHl_l' (v : Word) : (s.setHl v).l' = s.l' := rfl
@[simp] theorem setHl_i (v : Word) : (s.setHl v).i = s.i := rfl
@[simp] theorem setHl_r (v : Word) : (s.setHl v).r = s.r := rfl
@[simp] theorem setHl_ix (v : Word) : (s.setHl v).ix = s.ix := rfl
@[simp] theorem setHl_iy (v : Word) : (s.setHl v).iy = s.iy := rfl
@[simp] theorem setHl_sp (v : Word) : (s.setHl v).sp = s.sp := rfl
@[simp] theorem setHl_pc (v : Word) : (s.setHl v).pc = s.pc := rfl
@[simp] theorem setHl_iff1 (v : Word) : (s.setHl v).iff1 = s.iff1 := rfl
@[simp] theorem setHl_iff2 (v : Word) : (s.setHl v).iff2 = s.iff2 := rfl
@[simp] theorem setHl_im (v : Word) : (s.setHl v).im = s.im := rfl
@[simp] theorem setHl_halted (v : Word) : (s.setHl v).halted = s.halted := rfl
@[simp] theorem setHl_eiPending (v : Word) : (s.setHl v).eiPending = s.eiPending := rfl
@[simp] theorem setHl_mem (v : Word) : (s.setHl v).mem = s.mem := rfl
@[simp] theorem setHl_portLog (v : Word) : (s.setHl v).portLog = s.portLog := rfl
@[simp] theorem setHl_cfg (v : Word) : (s.setHl v).cfg = s.cfg := rfl
@[simp] theorem setHl_lines (v : Word) : (s.setHl v).lines = s.lines := rfl
@[simp] theorem setHl_portIn (v : Word) : (s.setHl v).portIn = s.portIn := rfl
@[simp] theorem setHl_draws (v : Word) : (s.setHl v).draws = s.draws := rfl

/-! ## `setAf` -/

@[simp] theorem setAf_a (v : Word) : (s.setAf v).a = hiByte v := rfl
@[simp] theorem setAf_f (v : Word) : (s.setAf v).f = loByte v := rfl
@[simp] theorem setAf_b (v : Word) : (s.setAf v).b = s.b := rfl
@[simp] theorem setAf_c (v : Word) : (s.setAf v).c = s.c := rfl
@[simp] theorem setAf_d (v : Word) : (s.setAf v).d = s.d := rfl
@[simp] theorem setAf_e (v : Word) : (s.setAf v).e = s.e := rfl
@[simp] theorem setAf_h (v : Word) : (s.setAf v).h = s.h := rfl
@[simp] theorem setAf_l (v : Word) : (s.setAf v).l = s.l := rfl
@[simp] theorem setAf_a' (v : Word) : (s.setAf v).a' = s.a' := rfl
@[simp] theorem setAf_f' (v : Word) : (s.setAf v).f' = s.f' := rfl
@[simp] theorem setAf_b' (v : Word) : (s.setAf v).b' = s.b' := rfl
@[simp] theorem setAf_c' (v : Word) : (s.setAf v).c' = s.c' := rfl
@[simp] theorem setAf_d' (v : Word) : (s.setAf v).d' = s.d' := rfl
@[simp] theorem setAf_e' (v : Word) : (s.setAf v).e' = s.e' := rfl
@[simp] theorem setAf_h' (v : Word) : (s.setAf v).h' = s.h' := rfl
@[simp] theorem setAf_l' (v : Word) : (s.setAf v).l' = s.l' := rfl
@[simp] theorem setAf_i (v : Word) : (s.setAf v).i = s.i := rfl
@[simp] theorem setAf_r (v : Word) : (s.setAf v).r = s.r := rfl
@[simp] theorem setAf_ix (v : Word) : (s.setAf v).ix = s.ix := rfl
@[simp] theorem setAf_iy (v : Word) : (s.setAf v).iy = s.iy := rfl
@[simp] theorem setAf_sp (v : Word) : (s.setAf v).sp = s.sp := rfl
@[simp] theorem setAf_pc (v : Word) : (s.setAf v).pc = s.pc := rfl
@[simp] theorem setAf_iff1 (v : Word) : (s.setAf v).iff1 = s.iff1 := rfl
@[simp] theorem setAf_iff2 (v : Word) : (s.setAf v).iff2 = s.iff2 := rfl
@[simp] theorem setAf_im (v : Word) : (s.setAf v).im = s.im := rfl
@[simp] theorem setAf_halted (v : Word) : (s.setAf v).halted = s.halted := rfl
@[simp] theorem setAf_eiPending (v : Word) : (s.setAf v).eiPending = s.eiPending := rfl
@[simp] theorem setAf_mem (v : Word) : (s.setAf v).mem = s.mem := rfl
@[simp] theorem setAf_portLog (v : Word) : (s.setAf v).portLog = s.portLog := rfl
@[simp] theorem setAf_cfg (v : Word) : (s.setAf v).cfg = s.cfg := rfl
@[simp] theorem setAf_lines (v : Word) : (s.setAf v).lines = s.lines := rfl
@[simp] theorem setAf_portIn (v : Word) : (s.setAf v).portIn = s.portIn := rfl
@[simp] theorem setAf_draws (v : Word) : (s.setAf v).draws = s.draws := rfl

/-! ## `setReg` -/

@[simp] theorem setReg_f (q : Reg8) (v : Byte) : (s.setReg q v).f = s.f := by cases q <;> rfl
@[simp] theorem setReg_a' (q : Reg8) (v : Byte) : (s.setReg q v).a' = s.a' := by cases q <;> rfl
@[simp] theorem setReg_f' (q : Reg8) (v : Byte) : (s.setReg q v).f' = s.f' := by cases q <;> rfl
@[simp] theorem setReg_b' (q : Reg8) (v : Byte) : (s.setReg q v).b' = s.b' := by cases q <;> rfl
@[simp] theorem setReg_c' (q : Reg8) (v : Byte) : (s.setReg q v).c' = s.c' := by cases q <;> rfl
@[simp] theorem setReg_d' (q : Reg8) (v : Byte) : (s.setReg q v).d' = s.d' := by cases q <;> rfl
@[simp] theorem setReg_e' (q : Reg8) (v : Byte) : (s.setReg q v).e' = s.e' := by cases q <;> rfl
@[simp] theorem setReg_h' (q : Reg8) (v : Byte) : (s.setReg q v).h' = s.h' := by cases q <;> rfl
@[simp] theorem setReg_l' (q : Reg8) (v : Byte) : (s.setReg q v).l' = s.l' := by cases q <;> rfl
@[simp] theorem setReg_i (q : Reg8) (v : Byte) : (s.setReg q v).i = s.i := by cases q <;> rfl
@[simp] theorem setReg_r (q : Reg8) (v : Byte) : (s.setReg q v).r = s.r := by cases q <;> rfl
@[simp] theorem setReg_ix (q : Reg8) (v : Byte) : (s.setReg q v).ix = s.ix := by cases q <;> rfl
@[simp] theorem setReg_iy (q : Reg8) (v : Byte) : (s.setReg q v).iy = s.iy := by cases q <;> rfl
@[simp] theorem setReg_sp (q : Reg8) (v : Byte) : (s.setReg q v).sp = s.sp := by cases q <;> rfl
@[simp] theorem setReg_pc (q : Reg8) (v : Byte) : (s.setReg q v).pc = s.pc := by cases q <;> rfl
@[simp] theorem setReg_iff1 (q : Reg8) (v : Byte) : (s.setReg q v).iff1 = s.iff1 := by cases q <;> rfl
@[simp] theorem setReg_iff2 (q : Reg8) (v : Byte) : (s.setReg q v).iff2 = s.iff2 := by cases q <;> rfl
@[simp] theorem setReg_im (q : Reg8) (v : Byte) : (s.setReg q v).im = s.im := by cases q <;> rfl
@[simp] theorem setReg_halted (q : Reg8) (v : Byte) : (s.setReg q v).halted = s.halted := by cases q <;> rfl
@[simp] theorem setReg_eiPending (q : Reg8) (v : Byte) : (s.setReg q v).eiPending = s.eiPending := by cases q <;> rfl
@[simp] theorem setReg_mem (q : Reg8) (v : Byte) : (s.setReg q v).mem = s.mem := by cases q <;> rfl
@[simp] theorem setReg_portLog (q : Reg8) (v : Byte) : (s.setReg q v).portLog = s.portLog := by cases q <;> rfl
@[simp] theorem setReg_cfg (q : Reg8) (v : Byte) : (s.setReg q v).cfg = s.cfg := by cases q <;> rfl
@[simp] theorem setReg_lines (q : Reg8) (v : Byte) : (s.setReg q v).lines = s.lines := by cases q <;> rfl
@[simp] theorem setReg_portIn (q : Reg8) (v : Byte) : (s.setReg q v).portIn = s.portIn := by cases q <;> rfl
@[simp] theorem setReg_draws (q : Reg8) (v : Byte) : (s.setReg q v).draws = s.draws := by cases q <;> rfl

/-! ## `setPair` -/

@[simp] theorem setPair_a (p : Pair) (v : Word) : (s.setPair p v).a = s.a := by cases p <;> rfl
@[simp] theorem setPair_f (p : Pair) (v : Word) : (s.setPair p v).f = s.f := by cases p <;> rfl
@[simp] theorem setPair_a' (p : Pair) (v : Word) : (s.setPair p v).a' = s.a' := by cases p <;> rfl
@[simp] theorem setPair_f' (p : Pair) (v : Word) : (s.setPair p v).f' = s.f' := by cases p <;> rfl
@[simp] theorem setPair_b' (p : Pair) (v : Word) : (s.setPair p v).b' = s.b' := by cases p <;> rfl
@[simp] theorem setPair_c' (p : Pair) (v : Word) : (s.setPair p v).c' = s.c' := by cases p <;> rfl
@[simp] theorem setPair_d' (p : Pair) (v : Word) : (s.setPair p v).d' = s.d' := by cases p <;> rfl
@[simp] theorem setPair_e' (p : Pair) (v : Word) : (s.setPair p v).e' = s.e' := by cases p <;> rfl
@[simp] theorem setPair_h' (p : Pair) (v : Word) : (s.setPair p v).h' = s.h' := by cases p <;> rfl
@[simp] theorem setPair_l' (p : Pair) (v : Word) : (s.setPair p v).l' = s.l' := by cases p <;> rfl
@[simp] theorem setPair_i (p : Pair) (v : Word) : (s.setPair p v).i = s.i := by cases p <;> rfl
@[simp] theorem setPair_r (p : Pair) (v : Word) : (s.setPair p v).r = s.r := by cases p <;> rfl
@[simp] theorem setPair_ix (p : Pair) (v : Word) : (s.setPair p v).ix = s.ix := by cases p <;> rfl
@[simp] theorem setPair_iy (p : Pair) (v : Word) : (s.setPair p v).iy = s.iy := by cases p <;> rfl
@[simp] theorem setPair_pc (p : Pair) (v : Word) : (s.setPair p v).pc = s.pc := by cases p <;> rfl
@[simp] theorem setPair_iff1 (p : Pair) (v : Word) : (s.setPair p v).iff1 = s.iff1 := by cases p <;> rfl
@[simp] theorem setPair_iff2 (p : Pair) (v : Word) : (s.setPair p v).iff2 = s.iff2 := by cases p <;> rfl
@[simp] theorem setPair_im (p : Pair) (v : Word) : (s.setPair p v).im = s.im := by cases p <;> rfl
@[simp] theorem setPair_halted (p : Pair) (v : Word) : (s.setPair p v).halted = s.halted := by cases p <;> rfl
@[simp] theorem setPair_eiPending (p : Pair) (v : Word) :
    (s.setPair p v).eiPending = s.eiPending := by cases p <;> rfl
@[simp] theorem setPair_mem (p : Pair) (v : Word) : (s.setPair p v).mem = s.mem := by cases p <;> rfl
@[simp] theorem setPair_portLog (p : Pair) (v : Word) : (s.setPair p v).portLog = s.portLog := by cases p <;> rfl
@[simp] theorem setPair_cfg (p : Pair) (v : Word) : (s.setPair p v).cfg = s.cfg := by cases p <;> rfl
@[simp] theorem setPair_lines (p : Pair) (v : Word) : (s.setPair p v).lines = s.lines := by cases p <;> rfl
@[simp] theorem setPair_portIn (p : Pair) (v : Word) : (s.setPair p v).portIn = s.portIn := by cases p <;> rfl
@[simp] theorem setPair_draws (p : Pair) (v : Word) : (s.setPair p v).draws = s.draws := by cases p <;> rfl

/-! ## `setStackPair` -/

@[simp] theorem setStackPair_a' (q : StackPair) (v : Word) : (s.setStackPair q v).a' = s.a' := by cases q <;> rfl
@[simp] theorem setStackPair_f' (q : StackPair) (v : Word) : (s.setStackPair q v).f' = s.f' := by cases q <;> rfl
@[simp] theorem setStackPair_b' (q : StackPair) (v : Word) : (s.setStackPair q v).b' = s.b' := by cases q <;> rfl
@[simp] theorem setStackPair_c' (q : StackPair) (v : Word) : (s.setStackPair q v).c' = s.c' := by cases q <;> rfl
@[simp] theorem setStackPair_d' (q : StackPair) (v : Word) : (s.setStackPair q v).d' = s.d' := by cases q <;> rfl
@[simp] theorem setStackPair_e' (q : StackPair) (v : Word) : (s.setStackPair q v).e' = s.e' := by cases q <;> rfl
@[simp] theorem setStackPair_h' (q : StackPair) (v : Word) : (s.setStackPair q v).h' = s.h' := by cases q <;> rfl
@[simp] theorem setStackPair_l' (q : StackPair) (v : Word) : (s.setStackPair q v).l' = s.l' := by cases q <;> rfl
@[simp] theorem setStackPair_i (q : StackPair) (v : Word) : (s.setStackPair q v).i = s.i := by cases q <;> rfl
@[simp] theorem setStackPair_r (q : StackPair) (v : Word) : (s.setStackPair q v).r = s.r := by cases q <;> rfl
@[simp] theorem setStackPair_ix (q : StackPair) (v : Word) : (s.setStackPair q v).ix = s.ix := by cases q <;> rfl
@[simp] theorem setStackPair_iy (q : StackPair) (v : Word) : (s.setStackPair q v).iy = s.iy := by cases q <;> rfl
@[simp] theorem setStackPair_sp (q : StackPair) (v : Word) : (s.setStackPair q v).sp = s.sp := by cases q <;> rfl
@[simp] theorem setStackPair_pc (q : StackPair) (v : Word) : (s.setStackPair q v).pc = s.pc := by cases q <;> rfl
@[simp] theorem setStackPair_iff1 (q : StackPair) (v : Word) :
    (s.setStackPair q v).iff1 = s.iff1 := by cases q <;> rfl
@[simp] theorem setStackPair_iff2 (q : StackPair) (v : Word) :
    (s.setStackPair q v).iff2 = s.iff2 := by cases q <;> rfl
@[simp] theorem setStackPair_im (q : StackPair) (v : Word) : (s.setStackPair q v).im = s.im := by cases q <;> rfl
@[simp] theorem setStackPair_halted (q : StackPair) (v : Word) :
    (s.setStackPair q v).halted = s.halted := by cases q <;> rfl
@[simp] theorem setStackPair_eiPending (q : StackPair) (v : Word) :
    (s.setStackPair q v).eiPending = s.eiPending := by cases q <;> rfl
@[simp] theorem setStackPair_mem (q : StackPair) (v : Word) : (s.setStackPair q v).mem = s.mem := by cases q <;> rfl
@[simp] theorem setStackPair_portLog (q : StackPair) (v : Word) :
    (s.setStackPair q v).portLog = s.portLog := by cases q <;> rfl
@[simp] theorem setStackPair_cfg (q : StackPair) (v : Word) : (s.setStackPair q v).cfg = s.cfg := by cases q <;> rfl
@[simp] theorem setStackPair_lines (q : StackPair) (v : Word) :
    (s.setStackPair q v).lines = s.lines := by cases q <;> rfl
@[simp] theorem setStackPair_portIn (q : StackPair) (v : Word) :
    (s.setStackPair q v).portIn = s.portIn := by cases q <;> rfl
@[simp] theorem setStackPair_draws (q : StackPair) (v : Word) :
    (s.setStackPair q v).draws = s.draws := by cases q <;> rfl

/-! ## `setIndex` -/

@[simp] theorem setIndex_a (x : Index) (v : Word) : (s.setIndex x v).a = s.a := by cases x <;> rfl
@[simp] theorem setIndex_f (x : Index) (v : Word) : (s.setIndex x v).f = s.f := by cases x <;> rfl
@[simp] theorem setIndex_b (x : Index) (v : Word) : (s.setIndex x v).b = s.b := by cases x <;> rfl
@[simp] theorem setIndex_c (x : Index) (v : Word) : (s.setIndex x v).c = s.c := by cases x <;> rfl
@[simp] theorem setIndex_d (x : Index) (v : Word) : (s.setIndex x v).d = s.d := by cases x <;> rfl
@[simp] theorem setIndex_e (x : Index) (v : Word) : (s.setIndex x v).e = s.e := by cases x <;> rfl
@[simp] theorem setIndex_h (x : Index) (v : Word) : (s.setIndex x v).h = s.h := by cases x <;> rfl
@[simp] theorem setIndex_l (x : Index) (v : Word) : (s.setIndex x v).l = s.l := by cases x <;> rfl
@[simp] theorem setIndex_a' (x : Index) (v : Word) : (s.setIndex x v).a' = s.a' := by cases x <;> rfl
@[simp] theorem setIndex_f' (x : Index) (v : Word) : (s.setIndex x v).f' = s.f' := by cases x <;> rfl
@[simp] theorem setIndex_b' (x : Index) (v : Word) : (s.setIndex x v).b' = s.b' := by cases x <;> rfl
@[simp] theorem setIndex_c' (x : Index) (v : Word) : (s.setIndex x v).c' = s.c' := by cases x <;> rfl
@[simp] theorem setIndex_d' (x : Index) (v : Word) : (s.setIndex x v).d' = s.d' := by cases x <;> rfl
@[simp] theorem setIndex_e' (x : Index) (v : Word) : (s.setIndex x v).e' = s.e' := by cases x <;> rfl
@[simp] theorem setIndex_h' (x : Index) (v : Word) : (s.setIndex x v).h' = s.h' := by cases x <;> rfl
@[simp] theorem setIndex_l' (x : Index) (v : Word) : (s.setIndex x v).l' = s.l' := by cases x <;> rfl
@[simp] theorem setIndex_i (x : Index) (v : Word) : (s.setIndex x v).i = s.i := by cases x <;> rfl
@[simp] theorem setIndex_r (x : Index) (v : Word) : (s.setIndex x v).r = s.r := by cases x <;> rfl
@[simp] theorem setIndex_sp (x : Index) (v : Word) : (s.setIndex x v).sp = s.sp := by cases x <;> rfl
@[simp] theorem setIndex_pc (x : Index) (v : Word) : (s.setIndex x v).pc = s.pc := by cases x <;> rfl
@[simp] theorem setIndex_iff1 (x : Index) (v : Word) : (s.setIndex x v).iff1 = s.iff1 := by cases x <;> rfl
@[simp] theorem setIndex_iff2 (x : Index) (v : Word) : (s.setIndex x v).iff2 = s.iff2 := by cases x <;> rfl
@[simp] theorem setIndex_im (x : Index) (v : Word) : (s.setIndex x v).im = s.im := by cases x <;> rfl
@[simp] theorem setIndex_halted (x : Index) (v : Word) : (s.setIndex x v).halted = s.halted := by cases x <;> rfl
@[simp] theorem setIndex_eiPending (x : Index) (v : Word) :
    (s.setIndex x v).eiPending = s.eiPending := by cases x <;> rfl
@[simp] theorem setIndex_mem (x : Index) (v : Word) : (s.setIndex x v).mem = s.mem := by cases x <;> rfl
@[simp] theorem setIndex_portLog (x : Index) (v : Word) : (s.setIndex x v).portLog = s.portLog := by cases x <;> rfl
@[simp] theorem setIndex_cfg (x : Index) (v : Word) : (s.setIndex x v).cfg = s.cfg := by cases x <;> rfl
@[simp] theorem setIndex_lines (x : Index) (v : Word) : (s.setIndex x v).lines = s.lines := by cases x <;> rfl
@[simp] theorem setIndex_portIn (x : Index) (v : Word) : (s.setIndex x v).portIn = s.portIn := by cases x <;> rfl
@[simp] theorem setIndex_draws (x : Index) (v : Word) : (s.setIndex x v).draws = s.draws := by cases x <;> rfl

/-! ## `write8` -/

@[simp] theorem write8_a (addr : Word) (v : Byte) : (s.write8 addr v).a = s.a := rfl
@[simp] theorem write8_f (addr : Word) (v : Byte) : (s.write8 addr v).f = s.f := rfl
@[simp] theorem write8_b (addr : Word) (v : Byte) : (s.write8 addr v).b = s.b := rfl
@[simp] theorem write8_c (addr : Word) (v : Byte) : (s.write8 addr v).c = s.c := rfl
@[simp] theorem write8_d (addr : Word) (v : Byte) : (s.write8 addr v).d = s.d := rfl
@[simp] theorem write8_e (addr : Word) (v : Byte) : (s.write8 addr v).e = s.e := rfl
@[simp] theorem write8_h (addr : Word) (v : Byte) : (s.write8 addr v).h = s.h := rfl
@[simp] theorem write8_l (addr : Word) (v : Byte) : (s.write8 addr v).l = s.l := rfl
@[simp] theorem write8_a' (addr : Word) (v : Byte) : (s.write8 addr v).a' = s.a' := rfl
@[simp] theorem write8_f' (addr : Word) (v : Byte) : (s.write8 addr v).f' = s.f' := rfl
@[simp] theorem write8_b' (addr : Word) (v : Byte) : (s.write8 addr v).b' = s.b' := rfl
@[simp] theorem write8_c' (addr : Word) (v : Byte) : (s.write8 addr v).c' = s.c' := rfl
@[simp] theorem write8_d' (addr : Word) (v : Byte) : (s.write8 addr v).d' = s.d' := rfl
@[simp] theorem write8_e' (addr : Word) (v : Byte) : (s.write8 addr v).e' = s.e' := rfl
@[simp] theorem write8_h' (addr : Word) (v : Byte) : (s.write8 addr v).h' = s.h' := rfl
@[simp] theorem write8_l' (addr : Word) (v : Byte) : (s.write8 addr v).l' = s.l' := rfl
@[simp] theorem write8_i (addr : Word) (v : Byte) : (s.write8 addr v).i = s.i := rfl
@[simp] theorem write8_r (addr : Word) (v : Byte) : (s.write8 addr v).r = s.r := rfl
@[simp] theorem write8_ix (addr : Word) (v : Byte) : (s.write8 addr v).ix = s.ix := rfl
@[simp] theorem write8_iy (addr : Word) (v : Byte) : (s.write8 addr v).iy = s.iy := rfl
@[simp] theorem write8_sp (addr : Word) (v : Byte) : (s.write8 addr v).sp = s.sp := rfl
@[simp] theorem write8_pc (addr : Word) (v : Byte) : (s.write8 addr v).pc = s.pc := rfl
@[simp] theorem write8_iff1 (addr : Word) (v : Byte) : (s.write8 addr v).iff1 = s.iff1 := rfl
@[simp] theorem write8_iff2 (addr : Word) (v : Byte) : (s.write8 addr v).iff2 = s.iff2 := rfl
@[simp] theorem write8_im (addr : Word) (v : Byte) : (s.write8 addr v).im = s.im := rfl
@[simp] theorem write8_halted (addr : Word) (v : Byte) : (s.write8 addr v).halted = s.halted := rfl
@[simp] theorem write8_eiPending (addr : Word) (v : Byte) : (s.write8 addr v).eiPending = s.eiPending := rfl
@[simp] theorem write8_portLog (addr : Word) (v : Byte) : (s.write8 addr v).portLog = s.portLog := rfl
@[simp] theorem write8_cfg (addr : Word) (v : Byte) : (s.write8 addr v).cfg = s.cfg := rfl
@[simp] theorem write8_lines (addr : Word) (v : Byte) : (s.write8 addr v).lines = s.lines := rfl
@[simp] theorem write8_portIn (addr : Word) (v : Byte) : (s.write8 addr v).portIn = s.portIn := rfl
@[simp] theorem write8_draws (addr : Word) (v : Byte) : (s.write8 addr v).draws = s.draws := rfl

/-! ## `write16` -/

@[simp] theorem write16_a (addr v : Word) : (s.write16 addr v).a = s.a := by simp [State.write16]
@[simp] theorem write16_f (addr v : Word) : (s.write16 addr v).f = s.f := by simp [State.write16]
@[simp] theorem write16_b (addr v : Word) : (s.write16 addr v).b = s.b := by simp [State.write16]
@[simp] theorem write16_c (addr v : Word) : (s.write16 addr v).c = s.c := by simp [State.write16]
@[simp] theorem write16_d (addr v : Word) : (s.write16 addr v).d = s.d := by simp [State.write16]
@[simp] theorem write16_e (addr v : Word) : (s.write16 addr v).e = s.e := by simp [State.write16]
@[simp] theorem write16_h (addr v : Word) : (s.write16 addr v).h = s.h := by simp [State.write16]
@[simp] theorem write16_l (addr v : Word) : (s.write16 addr v).l = s.l := by simp [State.write16]
@[simp] theorem write16_a' (addr v : Word) : (s.write16 addr v).a' = s.a' := by simp [State.write16]
@[simp] theorem write16_f' (addr v : Word) : (s.write16 addr v).f' = s.f' := by simp [State.write16]
@[simp] theorem write16_b' (addr v : Word) : (s.write16 addr v).b' = s.b' := by simp [State.write16]
@[simp] theorem write16_c' (addr v : Word) : (s.write16 addr v).c' = s.c' := by simp [State.write16]
@[simp] theorem write16_d' (addr v : Word) : (s.write16 addr v).d' = s.d' := by simp [State.write16]
@[simp] theorem write16_e' (addr v : Word) : (s.write16 addr v).e' = s.e' := by simp [State.write16]
@[simp] theorem write16_h' (addr v : Word) : (s.write16 addr v).h' = s.h' := by simp [State.write16]
@[simp] theorem write16_l' (addr v : Word) : (s.write16 addr v).l' = s.l' := by simp [State.write16]
@[simp] theorem write16_i (addr v : Word) : (s.write16 addr v).i = s.i := by simp [State.write16]
@[simp] theorem write16_r (addr v : Word) : (s.write16 addr v).r = s.r := by simp [State.write16]
@[simp] theorem write16_ix (addr v : Word) : (s.write16 addr v).ix = s.ix := by simp [State.write16]
@[simp] theorem write16_iy (addr v : Word) : (s.write16 addr v).iy = s.iy := by simp [State.write16]
@[simp] theorem write16_sp (addr v : Word) : (s.write16 addr v).sp = s.sp := by simp [State.write16]
@[simp] theorem write16_pc (addr v : Word) : (s.write16 addr v).pc = s.pc := by simp [State.write16]
@[simp] theorem write16_iff1 (addr v : Word) : (s.write16 addr v).iff1 = s.iff1 := by simp [State.write16]
@[simp] theorem write16_iff2 (addr v : Word) : (s.write16 addr v).iff2 = s.iff2 := by simp [State.write16]
@[simp] theorem write16_im (addr v : Word) : (s.write16 addr v).im = s.im := by simp [State.write16]
@[simp] theorem write16_halted (addr v : Word) : (s.write16 addr v).halted = s.halted := by simp [State.write16]
@[simp] theorem write16_eiPending (addr v : Word) :
    (s.write16 addr v).eiPending = s.eiPending := by simp [State.write16]
@[simp] theorem write16_portLog (addr v : Word) : (s.write16 addr v).portLog = s.portLog := by simp [State.write16]
@[simp] theorem write16_cfg (addr v : Word) : (s.write16 addr v).cfg = s.cfg := by simp [State.write16]
@[simp] theorem write16_lines (addr v : Word) : (s.write16 addr v).lines = s.lines := by simp [State.write16]
@[simp] theorem write16_portIn (addr v : Word) : (s.write16 addr v).portIn = s.portIn := by simp [State.write16]
@[simp] theorem write16_draws (addr v : Word) : (s.write16 addr v).draws = s.draws := by simp [State.write16]

/-! ## `push16` -/

@[simp] theorem push16_a (v : Word) : (s.push16 v).a = s.a := by simp [State.push16]
@[simp] theorem push16_f (v : Word) : (s.push16 v).f = s.f := by simp [State.push16]
@[simp] theorem push16_b (v : Word) : (s.push16 v).b = s.b := by simp [State.push16]
@[simp] theorem push16_c (v : Word) : (s.push16 v).c = s.c := by simp [State.push16]
@[simp] theorem push16_d (v : Word) : (s.push16 v).d = s.d := by simp [State.push16]
@[simp] theorem push16_e (v : Word) : (s.push16 v).e = s.e := by simp [State.push16]
@[simp] theorem push16_h (v : Word) : (s.push16 v).h = s.h := by simp [State.push16]
@[simp] theorem push16_l (v : Word) : (s.push16 v).l = s.l := by simp [State.push16]
@[simp] theorem push16_a' (v : Word) : (s.push16 v).a' = s.a' := by simp [State.push16]
@[simp] theorem push16_f' (v : Word) : (s.push16 v).f' = s.f' := by simp [State.push16]
@[simp] theorem push16_b' (v : Word) : (s.push16 v).b' = s.b' := by simp [State.push16]
@[simp] theorem push16_c' (v : Word) : (s.push16 v).c' = s.c' := by simp [State.push16]
@[simp] theorem push16_d' (v : Word) : (s.push16 v).d' = s.d' := by simp [State.push16]
@[simp] theorem push16_e' (v : Word) : (s.push16 v).e' = s.e' := by simp [State.push16]
@[simp] theorem push16_h' (v : Word) : (s.push16 v).h' = s.h' := by simp [State.push16]
@[simp] theorem push16_l' (v : Word) : (s.push16 v).l' = s.l' := by simp [State.push16]
@[simp] theorem push16_i (v : Word) : (s.push16 v).i = s.i := by simp [State.push16]
@[simp] theorem push16_r (v : Word) : (s.push16 v).r = s.r := by simp [State.push16]
@[simp] theorem push16_ix (v : Word) : (s.push16 v).ix = s.ix := by simp [State.push16]
@[simp] theorem push16_iy (v : Word) : (s.push16 v).iy = s.iy := by simp [State.push16]
@[simp] theorem push16_sp (v : Word) : (s.push16 v).sp = s.sp - 2 := by simp [State.push16]
@[simp] theorem push16_pc (v : Word) : (s.push16 v).pc = s.pc := by simp [State.push16]
@[simp] theorem push16_iff1 (v : Word) : (s.push16 v).iff1 = s.iff1 := by simp [State.push16]
@[simp] theorem push16_iff2 (v : Word) : (s.push16 v).iff2 = s.iff2 := by simp [State.push16]
@[simp] theorem push16_im (v : Word) : (s.push16 v).im = s.im := by simp [State.push16]
@[simp] theorem push16_halted (v : Word) : (s.push16 v).halted = s.halted := by simp [State.push16]
@[simp] theorem push16_eiPending (v : Word) : (s.push16 v).eiPending = s.eiPending := by simp [State.push16]
@[simp] theorem push16_portLog (v : Word) : (s.push16 v).portLog = s.portLog := by simp [State.push16]
@[simp] theorem push16_cfg (v : Word) : (s.push16 v).cfg = s.cfg := by simp [State.push16]
@[simp] theorem push16_lines (v : Word) : (s.push16 v).lines = s.lines := by simp [State.push16]
@[simp] theorem push16_portIn (v : Word) : (s.push16 v).portIn = s.portIn := by simp [State.push16]
@[simp] theorem push16_draws (v : Word) : (s.push16 v).draws = s.draws := by simp [State.push16]

/-! ## `pop16` -/

@[simp] theorem pop16_a : s.pop16.a = s.a := rfl
@[simp] theorem pop16_f : s.pop16.f = s.f := rfl
@[simp] theorem pop16_b : s.pop16.b = s.b := rfl
@[simp] theorem pop16_c : s.pop16.c = s.c := rfl
@[simp] theorem pop16_d : s.pop16.d = s.d := rfl
@[simp] theorem pop16_e : s.pop16.e = s.e := rfl
@[simp] theorem pop16_h : s.pop16.h = s.h := rfl
@[simp] theorem pop16_l : s.pop16.l = s.l := rfl
@[simp] theorem pop16_a' : s.pop16.a' = s.a' := rfl
@[simp] theorem pop16_f' : s.pop16.f' = s.f' := rfl
@[simp] theorem pop16_b' : s.pop16.b' = s.b' := rfl
@[simp] theorem pop16_c' : s.pop16.c' = s.c' := rfl
@[simp] theorem pop16_d' : s.pop16.d' = s.d' := rfl
@[simp] theorem pop16_e' : s.pop16.e' = s.e' := rfl
@[simp] theorem pop16_h' : s.pop16.h' = s.h' := rfl
@[simp] theorem pop16_l' : s.pop16.l' = s.l' := rfl
@[simp] theorem pop16_i : s.pop16.i = s.i := rfl
@[simp] theorem pop16_r : s.pop16.r = s.r := rfl
@[simp] theorem pop16_ix : s.pop16.ix = s.ix := rfl
@[simp] theorem pop16_iy : s.pop16.iy = s.iy := rfl
@[simp] theorem pop16_sp : s.pop16.sp = s.sp + 2 := rfl
@[simp] theorem pop16_pc : s.pop16.pc = s.pc := rfl
@[simp] theorem pop16_iff1 : s.pop16.iff1 = s.iff1 := rfl
@[simp] theorem pop16_iff2 : s.pop16.iff2 = s.iff2 := rfl
@[simp] theorem pop16_im : s.pop16.im = s.im := rfl
@[simp] theorem pop16_halted : s.pop16.halted = s.halted := rfl
@[simp] theorem pop16_eiPending : s.pop16.eiPending = s.eiPending := rfl
@[simp] theorem pop16_mem : s.pop16.mem = s.mem := rfl
@[simp] theorem pop16_portLog : s.pop16.portLog = s.portLog := rfl
@[simp] theorem pop16_cfg : s.pop16.cfg = s.cfg := rfl
@[simp] theorem pop16_lines : s.pop16.lines = s.lines := rfl
@[simp] theorem pop16_portIn : s.pop16.portIn = s.portIn := rfl
@[simp] theorem pop16_draws : s.pop16.draws = s.draws := rfl

/-! ## `exchangeTop` -/

@[simp] theorem exchangeTop_a (v : Word) : (s.exchangeTop v).a = s.a := by simp [State.exchangeTop]
@[simp] theorem exchangeTop_f (v : Word) : (s.exchangeTop v).f = s.f := by simp [State.exchangeTop]
@[simp] theorem exchangeTop_b (v : Word) : (s.exchangeTop v).b = s.b := by simp [State.exchangeTop]
@[simp] theorem exchangeTop_c (v : Word) : (s.exchangeTop v).c = s.c := by simp [State.exchangeTop]
@[simp] theorem exchangeTop_d (v : Word) : (s.exchangeTop v).d = s.d := by simp [State.exchangeTop]
@[simp] theorem exchangeTop_e (v : Word) : (s.exchangeTop v).e = s.e := by simp [State.exchangeTop]
@[simp] theorem exchangeTop_h (v : Word) : (s.exchangeTop v).h = s.h := by simp [State.exchangeTop]
@[simp] theorem exchangeTop_l (v : Word) : (s.exchangeTop v).l = s.l := by simp [State.exchangeTop]
@[simp] theorem exchangeTop_a' (v : Word) : (s.exchangeTop v).a' = s.a' := by simp [State.exchangeTop]
@[simp] theorem exchangeTop_f' (v : Word) : (s.exchangeTop v).f' = s.f' := by simp [State.exchangeTop]
@[simp] theorem exchangeTop_b' (v : Word) : (s.exchangeTop v).b' = s.b' := by simp [State.exchangeTop]
@[simp] theorem exchangeTop_c' (v : Word) : (s.exchangeTop v).c' = s.c' := by simp [State.exchangeTop]
@[simp] theorem exchangeTop_d' (v : Word) : (s.exchangeTop v).d' = s.d' := by simp [State.exchangeTop]
@[simp] theorem exchangeTop_e' (v : Word) : (s.exchangeTop v).e' = s.e' := by simp [State.exchangeTop]
@[simp] theorem exchangeTop_h' (v : Word) : (s.exchangeTop v).h' = s.h' := by simp [State.exchangeTop]
@[simp] theorem exchangeTop_l' (v : Word) : (s.exchangeTop v).l' = s.l' := by simp [State.exchangeTop]
@[simp] theorem exchangeTop_i (v : Word) : (s.exchangeTop v).i = s.i := by simp [State.exchangeTop]
@[simp] theorem exchangeTop_r (v : Word) : (s.exchangeTop v).r = s.r := by simp [State.exchangeTop]
@[simp] theorem exchangeTop_ix (v : Word) : (s.exchangeTop v).ix = s.ix := by simp [State.exchangeTop]
@[simp] theorem exchangeTop_iy (v : Word) : (s.exchangeTop v).iy = s.iy := by simp [State.exchangeTop]
@[simp] theorem exchangeTop_sp (v : Word) : (s.exchangeTop v).sp = s.sp := by simp [State.exchangeTop]
@[simp] theorem exchangeTop_pc (v : Word) : (s.exchangeTop v).pc = s.pc := by simp [State.exchangeTop]
@[simp] theorem exchangeTop_iff1 (v : Word) : (s.exchangeTop v).iff1 = s.iff1 := by simp [State.exchangeTop]
@[simp] theorem exchangeTop_iff2 (v : Word) : (s.exchangeTop v).iff2 = s.iff2 := by simp [State.exchangeTop]
@[simp] theorem exchangeTop_im (v : Word) : (s.exchangeTop v).im = s.im := by simp [State.exchangeTop]
@[simp] theorem exchangeTop_halted (v : Word) : (s.exchangeTop v).halted = s.halted := by simp [State.exchangeTop]
@[simp] theorem exchangeTop_eiPending (v : Word) :
    (s.exchangeTop v).eiPending = s.eiPending := by simp [State.exchangeTop]
@[simp] theorem exchangeTop_portLog (v : Word) : (s.exchangeTop v).portLog = s.portLog := by simp [State.exchangeTop]
@[simp] theorem exchangeTop_cfg (v : Word) : (s.exchangeTop v).cfg = s.cfg := by simp [State.exchangeTop]
@[simp] theorem exchangeTop_lines (v : Word) : (s.exchangeTop v).lines = s.lines := by simp [State.exchangeTop]
@[simp] theorem exchangeTop_portIn (v : Word) : (s.exchangeTop v).portIn = s.portIn := by simp [State.exchangeTop]
@[simp] theorem exchangeTop_draws (v : Word) : (s.exchangeTop v).draws = s.draws := by simp [State.exchangeTop]

/-! ## `ioRead` -/

@[simp] theorem ioRead_a (port : Word) : (s.ioRead port).a = s.a := rfl
@[simp] theorem ioRead_f (port : Word) : (s.ioRead port).f = s.f := rfl
@[simp] theorem ioRead_b (port : Word) : (s.ioRead port).b = s.b := rfl
@[simp] theorem ioRead_c (port : Word) : (s.ioRead port).c = s.c := rfl
@[simp] theorem ioRead_d (port : Word) : (s.ioRead port).d = s.d := rfl
@[simp] theorem ioRead_e (port : Word) : (s.ioRead port).e = s.e := rfl
@[simp] theorem ioRead_h (port : Word) : (s.ioRead port).h = s.h := rfl
@[simp] theorem ioRead_l (port : Word) : (s.ioRead port).l = s.l := rfl
@[simp] theorem ioRead_a' (port : Word) : (s.ioRead port).a' = s.a' := rfl
@[simp] theorem ioRead_f' (port : Word) : (s.ioRead port).f' = s.f' := rfl
@[simp] theorem ioRead_b' (port : Word) : (s.ioRead port).b' = s.b' := rfl
@[simp] theorem ioRead_c' (port : Word) : (s.ioRead port).c' = s.c' := rfl
@[simp] theorem ioRead_d' (port : Word) : (s.ioRead port).d' = s.d' := rfl
@[simp] theorem ioRead_e' (port : Word) : (s.ioRead port).e' = s.e' := rfl
@[simp] theorem ioRead_h' (port : Word) : (s.ioRead port).h' = s.h' := rfl
@[simp] theorem ioRead_l' (port : Word) : (s.ioRead port).l' = s.l' := rfl
@[simp] theorem ioRead_i (port : Word) : (s.ioRead port).i = s.i := rfl
@[simp] theorem ioRead_r (port : Word) : (s.ioRead port).r = s.r := rfl
@[simp] theorem ioRead_ix (port : Word) : (s.ioRead port).ix = s.ix := rfl
@[simp] theorem ioRead_iy (port : Word) : (s.ioRead port).iy = s.iy := rfl
@[simp] theorem ioRead_sp (port : Word) : (s.ioRead port).sp = s.sp := rfl
@[simp] theorem ioRead_pc (port : Word) : (s.ioRead port).pc = s.pc := rfl
@[simp] theorem ioRead_iff1 (port : Word) : (s.ioRead port).iff1 = s.iff1 := rfl
@[simp] theorem ioRead_iff2 (port : Word) : (s.ioRead port).iff2 = s.iff2 := rfl
@[simp] theorem ioRead_im (port : Word) : (s.ioRead port).im = s.im := rfl
@[simp] theorem ioRead_halted (port : Word) : (s.ioRead port).halted = s.halted := rfl
@[simp] theorem ioRead_eiPending (port : Word) : (s.ioRead port).eiPending = s.eiPending := rfl
@[simp] theorem ioRead_mem (port : Word) : (s.ioRead port).mem = s.mem := rfl
@[simp] theorem ioRead_portLog (port : Word) : (s.ioRead port).portLog = s.portLog ++ [.read port s.portByte] := rfl
@[simp] theorem ioRead_cfg (port : Word) : (s.ioRead port).cfg = s.cfg := rfl
@[simp] theorem ioRead_lines (port : Word) : (s.ioRead port).lines = s.lines := rfl
@[simp] theorem ioRead_portIn (port : Word) : (s.ioRead port).portIn = s.portIn.tail := rfl
@[simp] theorem ioRead_draws (port : Word) :
    (s.ioRead port).draws = if s.portIn.isEmpty then s.draws + 1 else s.draws := rfl

/-! ## `ioWrite` -/

@[simp] theorem ioWrite_a (port : Word) (v : Byte) : (s.ioWrite port v).a = s.a := rfl
@[simp] theorem ioWrite_f (port : Word) (v : Byte) : (s.ioWrite port v).f = s.f := rfl
@[simp] theorem ioWrite_b (port : Word) (v : Byte) : (s.ioWrite port v).b = s.b := rfl
@[simp] theorem ioWrite_c (port : Word) (v : Byte) : (s.ioWrite port v).c = s.c := rfl
@[simp] theorem ioWrite_d (port : Word) (v : Byte) : (s.ioWrite port v).d = s.d := rfl
@[simp] theorem ioWrite_e (port : Word) (v : Byte) : (s.ioWrite port v).e = s.e := rfl
@[simp] theorem ioWrite_h (port : Word) (v : Byte) : (s.ioWrite port v).h = s.h := rfl
@[simp] theorem ioWrite_l (port : Word) (v : Byte) : (s.ioWrite port v).l = s.l := rfl
@[simp] theorem ioWrite_a' (port : Word) (v : Byte) : (s.ioWrite port v).a' = s.a' := rfl
@[simp] theorem ioWrite_f' (port : Word) (v : Byte) : (s.ioWrite port v).f' = s.f' := rfl
@[simp] theorem ioWrite_b' (port : Word) (v : Byte) : (s.ioWrite port v).b' = s.b' := rfl
@[simp] theorem ioWrite_c' (port : Word) (v : Byte) : (s.ioWrite port v).c' = s.c' := rfl
@[simp] theorem ioWrite_d' (port : Word) (v : Byte) : (s.ioWrite port v).d' = s.d' := rfl
@[simp] theorem ioWrite_e' (port : Word) (v : Byte) : (s.ioWrite port v).e' = s.e' := rfl
@[simp] theorem ioWrite_h' (port : Word) (v : Byte) : (s.ioWrite port v).h' = s.h' := rfl
@[simp] theorem ioWrite_l' (port : Word) (v : Byte) : (s.ioWrite port v).l' = s.l' := rfl
@[simp] theorem ioWrite_i (port : Word) (v : Byte) : (s.ioWrite port v).i = s.i := rfl
@[simp] theorem ioWrite_r (port : Word) (v : Byte) : (s.ioWrite port v).r = s.r := rfl
@[simp] theorem ioWrite_ix (port : Word) (v : Byte) : (s.ioWrite port v).ix = s.ix := rfl
@[simp] theorem ioWrite_iy (port : Word) (v : Byte) : (s.ioWrite port v).iy = s.iy := rfl
@[simp] theorem ioWrite_sp (port : Word) (v : Byte) : (s.ioWrite port v).sp = s.sp := rfl
@[simp] theorem ioWrite_pc (port : Word) (v : Byte) : (s.ioWrite port v).pc = s.pc := rfl
@[simp] theorem ioWrite_iff1 (port : Word) (v : Byte) : (s.ioWrite port v).iff1 = s.iff1 := rfl
@[simp] theorem ioWrite_iff2 (port : Word) (v : Byte) : (s.ioWrite port v).iff2 = s.iff2 := rfl
@[simp] theorem ioWrite_im (port : Word) (v : Byte) : (s.ioWrite port v).im = s.im := rfl
@[simp] theorem ioWrite_halted (port : Word) (v : Byte) : (s.ioWrite port v).halted = s.halted := rfl
@[simp] theorem ioWrite_eiPending (port : Word) (v : Byte) : (s.ioWrite port v).eiPending = s.eiPending := rfl
@[simp] theorem ioWrite_mem (port : Word) (v : Byte) : (s.ioWrite port v).mem = s.mem := rfl
@[simp] theorem ioWrite_portLog (port : Word) (v : Byte) :
    (s.ioWrite port v).portLog = s.portLog ++ [.write port v] := rfl
@[simp] theorem ioWrite_cfg (port : Word) (v : Byte) : (s.ioWrite port v).cfg = s.cfg := rfl
@[simp] theorem ioWrite_lines (port : Word) (v : Byte) : (s.ioWrite port v).lines = s.lines := rfl
@[simp] theorem ioWrite_portIn (port : Word) (v : Byte) : (s.ioWrite port v).portIn = s.portIn := rfl
@[simp] theorem ioWrite_draws (port : Word) (v : Byte) : (s.ioWrite port v).draws = s.draws := rfl

/-! ## `drewFlags` -/

@[simp] theorem drewFlags_a : s.drewFlags.a = s.a := rfl
@[simp] theorem drewFlags_f : s.drewFlags.f = s.f := rfl
@[simp] theorem drewFlags_b : s.drewFlags.b = s.b := rfl
@[simp] theorem drewFlags_c : s.drewFlags.c = s.c := rfl
@[simp] theorem drewFlags_d : s.drewFlags.d = s.d := rfl
@[simp] theorem drewFlags_e : s.drewFlags.e = s.e := rfl
@[simp] theorem drewFlags_h : s.drewFlags.h = s.h := rfl
@[simp] theorem drewFlags_l : s.drewFlags.l = s.l := rfl
@[simp] theorem drewFlags_a' : s.drewFlags.a' = s.a' := rfl
@[simp] theorem drewFlags_f' : s.drewFlags.f' = s.f' := rfl
@[simp] theorem drewFlags_b' : s.drewFlags.b' = s.b' := rfl
@[simp] theorem drewFlags_c' : s.drewFlags.c' = s.c' := rfl
@[simp] theorem drewFlags_d' : s.drewFlags.d' = s.d' := rfl
@[simp] theorem drewFlags_e' : s.drewFlags.e' = s.e' := rfl
@[simp] theorem drewFlags_h' : s.drewFlags.h' = s.h' := rfl
@[simp] theorem drewFlags_l' : s.drewFlags.l' = s.l' := rfl
@[simp] theorem drewFlags_i : s.drewFlags.i = s.i := rfl
@[simp] theorem drewFlags_r : s.drewFlags.r = s.r := rfl
@[simp] theorem drewFlags_ix : s.drewFlags.ix = s.ix := rfl
@[simp] theorem drewFlags_iy : s.drewFlags.iy = s.iy := rfl
@[simp] theorem drewFlags_sp : s.drewFlags.sp = s.sp := rfl
@[simp] theorem drewFlags_pc : s.drewFlags.pc = s.pc := rfl
@[simp] theorem drewFlags_iff1 : s.drewFlags.iff1 = s.iff1 := rfl
@[simp] theorem drewFlags_iff2 : s.drewFlags.iff2 = s.iff2 := rfl
@[simp] theorem drewFlags_im : s.drewFlags.im = s.im := rfl
@[simp] theorem drewFlags_halted : s.drewFlags.halted = s.halted := rfl
@[simp] theorem drewFlags_eiPending : s.drewFlags.eiPending = s.eiPending := rfl
@[simp] theorem drewFlags_mem : s.drewFlags.mem = s.mem := rfl
@[simp] theorem drewFlags_portLog : s.drewFlags.portLog = s.portLog := rfl
@[simp] theorem drewFlags_cfg : s.drewFlags.cfg = s.cfg := rfl
@[simp] theorem drewFlags_lines : s.drewFlags.lines = s.lines := rfl
@[simp] theorem drewFlags_portIn : s.drewFlags.portIn = s.portIn := rfl
@[simp] theorem drewFlags_draws : s.drewFlags.draws = s.draws + 2 := rfl

/-! ## `wait` -/

@[simp] theorem wait_a (t : Nat) : (s.wait t).a = s.a := rfl
@[simp] theorem wait_f (t : Nat) : (s.wait t).f = s.f := rfl
@[simp] theorem wait_b (t : Nat) : (s.wait t).b = s.b := rfl
@[simp] theorem wait_c (t : Nat) : (s.wait t).c = s.c := rfl
@[simp] theorem wait_d (t : Nat) : (s.wait t).d = s.d := rfl
@[simp] theorem wait_e (t : Nat) : (s.wait t).e = s.e := rfl
@[simp] theorem wait_h (t : Nat) : (s.wait t).h = s.h := rfl
@[simp] theorem wait_l (t : Nat) : (s.wait t).l = s.l := rfl
@[simp] theorem wait_a' (t : Nat) : (s.wait t).a' = s.a' := rfl
@[simp] theorem wait_f' (t : Nat) : (s.wait t).f' = s.f' := rfl
@[simp] theorem wait_b' (t : Nat) : (s.wait t).b' = s.b' := rfl
@[simp] theorem wait_c' (t : Nat) : (s.wait t).c' = s.c' := rfl
@[simp] theorem wait_d' (t : Nat) : (s.wait t).d' = s.d' := rfl
@[simp] theorem wait_e' (t : Nat) : (s.wait t).e' = s.e' := rfl
@[simp] theorem wait_h' (t : Nat) : (s.wait t).h' = s.h' := rfl
@[simp] theorem wait_l' (t : Nat) : (s.wait t).l' = s.l' := rfl
@[simp] theorem wait_i (t : Nat) : (s.wait t).i = s.i := rfl
@[simp] theorem wait_ix (t : Nat) : (s.wait t).ix = s.ix := rfl
@[simp] theorem wait_iy (t : Nat) : (s.wait t).iy = s.iy := rfl
@[simp] theorem wait_sp (t : Nat) : (s.wait t).sp = s.sp := rfl
@[simp] theorem wait_pc (t : Nat) : (s.wait t).pc = s.pc := rfl
@[simp] theorem wait_iff1 (t : Nat) : (s.wait t).iff1 = s.iff1 := rfl
@[simp] theorem wait_iff2 (t : Nat) : (s.wait t).iff2 = s.iff2 := rfl
@[simp] theorem wait_im (t : Nat) : (s.wait t).im = s.im := rfl
@[simp] theorem wait_halted (t : Nat) : (s.wait t).halted = s.halted := rfl
@[simp] theorem wait_eiPending (t : Nat) : (s.wait t).eiPending = s.eiPending := rfl
@[simp] theorem wait_mem (t : Nat) : (s.wait t).mem = s.mem := rfl
@[simp] theorem wait_portLog (t : Nat) : (s.wait t).portLog = s.portLog := rfl
@[simp] theorem wait_cfg (t : Nat) : (s.wait t).cfg = s.cfg := rfl
@[simp] theorem wait_lines (t : Nat) : (s.wait t).lines = s.lines := rfl
@[simp] theorem wait_portIn (t : Nat) : (s.wait t).portIn = s.portIn := rfl
@[simp] theorem wait_draws (t : Nat) : (s.wait t).draws = s.draws := rfl

/-! ## `spend` -/

@[simp] theorem spend_a (rule t : Nat) : (s.spend rule t).a = s.a := by simp [State.spend]
@[simp] theorem spend_f (rule t : Nat) : (s.spend rule t).f = s.f := by simp [State.spend]
@[simp] theorem spend_b (rule t : Nat) : (s.spend rule t).b = s.b := by simp [State.spend]
@[simp] theorem spend_c (rule t : Nat) : (s.spend rule t).c = s.c := by simp [State.spend]
@[simp] theorem spend_d (rule t : Nat) : (s.spend rule t).d = s.d := by simp [State.spend]
@[simp] theorem spend_e (rule t : Nat) : (s.spend rule t).e = s.e := by simp [State.spend]
@[simp] theorem spend_h (rule t : Nat) : (s.spend rule t).h = s.h := by simp [State.spend]
@[simp] theorem spend_l (rule t : Nat) : (s.spend rule t).l = s.l := by simp [State.spend]
@[simp] theorem spend_a' (rule t : Nat) : (s.spend rule t).a' = s.a' := by simp [State.spend]
@[simp] theorem spend_f' (rule t : Nat) : (s.spend rule t).f' = s.f' := by simp [State.spend]
@[simp] theorem spend_b' (rule t : Nat) : (s.spend rule t).b' = s.b' := by simp [State.spend]
@[simp] theorem spend_c' (rule t : Nat) : (s.spend rule t).c' = s.c' := by simp [State.spend]
@[simp] theorem spend_d' (rule t : Nat) : (s.spend rule t).d' = s.d' := by simp [State.spend]
@[simp] theorem spend_e' (rule t : Nat) : (s.spend rule t).e' = s.e' := by simp [State.spend]
@[simp] theorem spend_h' (rule t : Nat) : (s.spend rule t).h' = s.h' := by simp [State.spend]
@[simp] theorem spend_l' (rule t : Nat) : (s.spend rule t).l' = s.l' := by simp [State.spend]
@[simp] theorem spend_i (rule t : Nat) : (s.spend rule t).i = s.i := by simp [State.spend]
@[simp] theorem spend_r (rule t : Nat) :
    (s.spend rule t).r = (s.wait (s.cost rule false t)).r := by simp [State.spend]
@[simp] theorem spend_ix (rule t : Nat) : (s.spend rule t).ix = s.ix := by simp [State.spend]
@[simp] theorem spend_iy (rule t : Nat) : (s.spend rule t).iy = s.iy := by simp [State.spend]
@[simp] theorem spend_sp (rule t : Nat) : (s.spend rule t).sp = s.sp := by simp [State.spend]
@[simp] theorem spend_pc (rule t : Nat) : (s.spend rule t).pc = s.pc := by simp [State.spend]
@[simp] theorem spend_iff1 (rule t : Nat) : (s.spend rule t).iff1 = s.iff1 := by simp [State.spend]
@[simp] theorem spend_iff2 (rule t : Nat) : (s.spend rule t).iff2 = s.iff2 := by simp [State.spend]
@[simp] theorem spend_im (rule t : Nat) : (s.spend rule t).im = s.im := by simp [State.spend]
@[simp] theorem spend_halted (rule t : Nat) : (s.spend rule t).halted = s.halted := by simp [State.spend]
@[simp] theorem spend_eiPending (rule t : Nat) : (s.spend rule t).eiPending = s.eiPending := by simp [State.spend]
@[simp] theorem spend_mem (rule t : Nat) : (s.spend rule t).mem = s.mem := by simp [State.spend]
@[simp] theorem spend_portLog (rule t : Nat) : (s.spend rule t).portLog = s.portLog := by simp [State.spend]
@[simp] theorem spend_cfg (rule t : Nat) : (s.spend rule t).cfg = s.cfg := by simp [State.spend]
@[simp] theorem spend_lines (rule t : Nat) : (s.spend rule t).lines = s.lines := by simp [State.spend]
@[simp] theorem spend_portIn (rule t : Nat) : (s.spend rule t).portIn = s.portIn := by simp [State.spend]
@[simp] theorem spend_draws (rule t : Nat) : (s.spend rule t).draws = s.draws := by simp [State.spend]

/-! ## `spendSecond` -/

@[simp] theorem spendSecond_a (rule t : Nat) : (s.spendSecond rule t).a = s.a := by simp [State.spendSecond]
@[simp] theorem spendSecond_f (rule t : Nat) : (s.spendSecond rule t).f = s.f := by simp [State.spendSecond]
@[simp] theorem spendSecond_b (rule t : Nat) : (s.spendSecond rule t).b = s.b := by simp [State.spendSecond]
@[simp] theorem spendSecond_c (rule t : Nat) : (s.spendSecond rule t).c = s.c := by simp [State.spendSecond]
@[simp] theorem spendSecond_d (rule t : Nat) : (s.spendSecond rule t).d = s.d := by simp [State.spendSecond]
@[simp] theorem spendSecond_e (rule t : Nat) : (s.spendSecond rule t).e = s.e := by simp [State.spendSecond]
@[simp] theorem spendSecond_h (rule t : Nat) : (s.spendSecond rule t).h = s.h := by simp [State.spendSecond]
@[simp] theorem spendSecond_l (rule t : Nat) : (s.spendSecond rule t).l = s.l := by simp [State.spendSecond]
@[simp] theorem spendSecond_a' (rule t : Nat) : (s.spendSecond rule t).a' = s.a' := by simp [State.spendSecond]
@[simp] theorem spendSecond_f' (rule t : Nat) : (s.spendSecond rule t).f' = s.f' := by simp [State.spendSecond]
@[simp] theorem spendSecond_b' (rule t : Nat) : (s.spendSecond rule t).b' = s.b' := by simp [State.spendSecond]
@[simp] theorem spendSecond_c' (rule t : Nat) : (s.spendSecond rule t).c' = s.c' := by simp [State.spendSecond]
@[simp] theorem spendSecond_d' (rule t : Nat) : (s.spendSecond rule t).d' = s.d' := by simp [State.spendSecond]
@[simp] theorem spendSecond_e' (rule t : Nat) : (s.spendSecond rule t).e' = s.e' := by simp [State.spendSecond]
@[simp] theorem spendSecond_h' (rule t : Nat) : (s.spendSecond rule t).h' = s.h' := by simp [State.spendSecond]
@[simp] theorem spendSecond_l' (rule t : Nat) : (s.spendSecond rule t).l' = s.l' := by simp [State.spendSecond]
@[simp] theorem spendSecond_i (rule t : Nat) : (s.spendSecond rule t).i = s.i := by simp [State.spendSecond]
@[simp] theorem spendSecond_r (rule t : Nat) :
    (s.spendSecond rule t).r = (s.wait (s.cost rule true t)).r := by simp [State.spendSecond]
@[simp] theorem spendSecond_ix (rule t : Nat) : (s.spendSecond rule t).ix = s.ix := by simp [State.spendSecond]
@[simp] theorem spendSecond_iy (rule t : Nat) : (s.spendSecond rule t).iy = s.iy := by simp [State.spendSecond]
@[simp] theorem spendSecond_sp (rule t : Nat) : (s.spendSecond rule t).sp = s.sp := by simp [State.spendSecond]
@[simp] theorem spendSecond_pc (rule t : Nat) : (s.spendSecond rule t).pc = s.pc := by simp [State.spendSecond]
@[simp] theorem spendSecond_iff1 (rule t : Nat) : (s.spendSecond rule t).iff1 = s.iff1 := by simp [State.spendSecond]
@[simp] theorem spendSecond_iff2 (rule t : Nat) : (s.spendSecond rule t).iff2 = s.iff2 := by simp [State.spendSecond]
@[simp] theorem spendSecond_im (rule t : Nat) : (s.spendSecond rule t).im = s.im := by simp [State.spendSecond]
@[simp] theorem spendSecond_halted (rule t : Nat) :
    (s.spendSecond rule t).halted = s.halted := by simp [State.spendSecond]
@[simp] theorem spendSecond_eiPending (rule t : Nat) :
    (s.spendSecond rule t).eiPending = s.eiPending := by simp [State.spendSecond]
@[simp] theorem spendSecond_mem (rule t : Nat) : (s.spendSecond rule t).mem = s.mem := by simp [State.spendSecond]
@[simp] theorem spendSecond_portLog (rule t : Nat) :
    (s.spendSecond rule t).portLog = s.portLog := by simp [State.spendSecond]
@[simp] theorem spendSecond_cfg (rule t : Nat) : (s.spendSecond rule t).cfg = s.cfg := by simp [State.spendSecond]
@[simp] theorem spendSecond_lines (rule t : Nat) :
    (s.spendSecond rule t).lines = s.lines := by simp [State.spendSecond]
@[simp] theorem spendSecond_portIn (rule t : Nat) :
    (s.spendSecond rule t).portIn = s.portIn := by simp [State.spendSecond]
@[simp] theorem spendSecond_draws (rule t : Nat) :
    (s.spendSecond rule t).draws = s.draws := by simp [State.spendSecond]

/-! ## `toAcc` -/

@[simp] theorem toAcc_a (p : Byte × Byte) : (s.toAcc p).a = p.1 := rfl
@[simp] theorem toAcc_f (p : Byte × Byte) : (s.toAcc p).f = p.2 := rfl
@[simp] theorem toAcc_b (p : Byte × Byte) : (s.toAcc p).b = s.b := rfl
@[simp] theorem toAcc_c (p : Byte × Byte) : (s.toAcc p).c = s.c := rfl
@[simp] theorem toAcc_d (p : Byte × Byte) : (s.toAcc p).d = s.d := rfl
@[simp] theorem toAcc_e (p : Byte × Byte) : (s.toAcc p).e = s.e := rfl
@[simp] theorem toAcc_h (p : Byte × Byte) : (s.toAcc p).h = s.h := rfl
@[simp] theorem toAcc_l (p : Byte × Byte) : (s.toAcc p).l = s.l := rfl
@[simp] theorem toAcc_a' (p : Byte × Byte) : (s.toAcc p).a' = s.a' := rfl
@[simp] theorem toAcc_f' (p : Byte × Byte) : (s.toAcc p).f' = s.f' := rfl
@[simp] theorem toAcc_b' (p : Byte × Byte) : (s.toAcc p).b' = s.b' := rfl
@[simp] theorem toAcc_c' (p : Byte × Byte) : (s.toAcc p).c' = s.c' := rfl
@[simp] theorem toAcc_d' (p : Byte × Byte) : (s.toAcc p).d' = s.d' := rfl
@[simp] theorem toAcc_e' (p : Byte × Byte) : (s.toAcc p).e' = s.e' := rfl
@[simp] theorem toAcc_h' (p : Byte × Byte) : (s.toAcc p).h' = s.h' := rfl
@[simp] theorem toAcc_l' (p : Byte × Byte) : (s.toAcc p).l' = s.l' := rfl
@[simp] theorem toAcc_i (p : Byte × Byte) : (s.toAcc p).i = s.i := rfl
@[simp] theorem toAcc_r (p : Byte × Byte) : (s.toAcc p).r = s.r := rfl
@[simp] theorem toAcc_ix (p : Byte × Byte) : (s.toAcc p).ix = s.ix := rfl
@[simp] theorem toAcc_iy (p : Byte × Byte) : (s.toAcc p).iy = s.iy := rfl
@[simp] theorem toAcc_sp (p : Byte × Byte) : (s.toAcc p).sp = s.sp := rfl
@[simp] theorem toAcc_pc (p : Byte × Byte) : (s.toAcc p).pc = s.pc := rfl
@[simp] theorem toAcc_iff1 (p : Byte × Byte) : (s.toAcc p).iff1 = s.iff1 := rfl
@[simp] theorem toAcc_iff2 (p : Byte × Byte) : (s.toAcc p).iff2 = s.iff2 := rfl
@[simp] theorem toAcc_im (p : Byte × Byte) : (s.toAcc p).im = s.im := rfl
@[simp] theorem toAcc_halted (p : Byte × Byte) : (s.toAcc p).halted = s.halted := rfl
@[simp] theorem toAcc_eiPending (p : Byte × Byte) : (s.toAcc p).eiPending = s.eiPending := rfl
@[simp] theorem toAcc_mem (p : Byte × Byte) : (s.toAcc p).mem = s.mem := rfl
@[simp] theorem toAcc_portLog (p : Byte × Byte) : (s.toAcc p).portLog = s.portLog := rfl
@[simp] theorem toAcc_cfg (p : Byte × Byte) : (s.toAcc p).cfg = s.cfg := rfl
@[simp] theorem toAcc_lines (p : Byte × Byte) : (s.toAcc p).lines = s.lines := rfl
@[simp] theorem toAcc_portIn (p : Byte × Byte) : (s.toAcc p).portIn = s.portIn := rfl
@[simp] theorem toAcc_draws (p : Byte × Byte) : (s.toAcc p).draws = s.draws := rfl

/-! ## `toFlags` -/

@[simp] theorem toFlags_a (p : Byte × Byte) : (s.toFlags p).a = s.a := rfl
@[simp] theorem toFlags_f (p : Byte × Byte) : (s.toFlags p).f = p.2 := rfl
@[simp] theorem toFlags_b (p : Byte × Byte) : (s.toFlags p).b = s.b := rfl
@[simp] theorem toFlags_c (p : Byte × Byte) : (s.toFlags p).c = s.c := rfl
@[simp] theorem toFlags_d (p : Byte × Byte) : (s.toFlags p).d = s.d := rfl
@[simp] theorem toFlags_e (p : Byte × Byte) : (s.toFlags p).e = s.e := rfl
@[simp] theorem toFlags_h (p : Byte × Byte) : (s.toFlags p).h = s.h := rfl
@[simp] theorem toFlags_l (p : Byte × Byte) : (s.toFlags p).l = s.l := rfl
@[simp] theorem toFlags_a' (p : Byte × Byte) : (s.toFlags p).a' = s.a' := rfl
@[simp] theorem toFlags_f' (p : Byte × Byte) : (s.toFlags p).f' = s.f' := rfl
@[simp] theorem toFlags_b' (p : Byte × Byte) : (s.toFlags p).b' = s.b' := rfl
@[simp] theorem toFlags_c' (p : Byte × Byte) : (s.toFlags p).c' = s.c' := rfl
@[simp] theorem toFlags_d' (p : Byte × Byte) : (s.toFlags p).d' = s.d' := rfl
@[simp] theorem toFlags_e' (p : Byte × Byte) : (s.toFlags p).e' = s.e' := rfl
@[simp] theorem toFlags_h' (p : Byte × Byte) : (s.toFlags p).h' = s.h' := rfl
@[simp] theorem toFlags_l' (p : Byte × Byte) : (s.toFlags p).l' = s.l' := rfl
@[simp] theorem toFlags_i (p : Byte × Byte) : (s.toFlags p).i = s.i := rfl
@[simp] theorem toFlags_r (p : Byte × Byte) : (s.toFlags p).r = s.r := rfl
@[simp] theorem toFlags_ix (p : Byte × Byte) : (s.toFlags p).ix = s.ix := rfl
@[simp] theorem toFlags_iy (p : Byte × Byte) : (s.toFlags p).iy = s.iy := rfl
@[simp] theorem toFlags_sp (p : Byte × Byte) : (s.toFlags p).sp = s.sp := rfl
@[simp] theorem toFlags_pc (p : Byte × Byte) : (s.toFlags p).pc = s.pc := rfl
@[simp] theorem toFlags_iff1 (p : Byte × Byte) : (s.toFlags p).iff1 = s.iff1 := rfl
@[simp] theorem toFlags_iff2 (p : Byte × Byte) : (s.toFlags p).iff2 = s.iff2 := rfl
@[simp] theorem toFlags_im (p : Byte × Byte) : (s.toFlags p).im = s.im := rfl
@[simp] theorem toFlags_halted (p : Byte × Byte) : (s.toFlags p).halted = s.halted := rfl
@[simp] theorem toFlags_eiPending (p : Byte × Byte) : (s.toFlags p).eiPending = s.eiPending := rfl
@[simp] theorem toFlags_mem (p : Byte × Byte) : (s.toFlags p).mem = s.mem := rfl
@[simp] theorem toFlags_portLog (p : Byte × Byte) : (s.toFlags p).portLog = s.portLog := rfl
@[simp] theorem toFlags_cfg (p : Byte × Byte) : (s.toFlags p).cfg = s.cfg := rfl
@[simp] theorem toFlags_lines (p : Byte × Byte) : (s.toFlags p).lines = s.lines := rfl
@[simp] theorem toFlags_portIn (p : Byte × Byte) : (s.toFlags p).portIn = s.portIn := rfl
@[simp] theorem toFlags_draws (p : Byte × Byte) : (s.toFlags p).draws = s.draws := rfl

/-! ## `toReg` -/

@[simp] theorem toReg_f (q : Reg8) (p : Byte × Byte) : (s.toReg q p).f = p.2 := by simp [State.toReg]
@[simp] theorem toReg_a' (q : Reg8) (p : Byte × Byte) : (s.toReg q p).a' = s.a' := by simp [State.toReg]
@[simp] theorem toReg_f' (q : Reg8) (p : Byte × Byte) : (s.toReg q p).f' = s.f' := by simp [State.toReg]
@[simp] theorem toReg_b' (q : Reg8) (p : Byte × Byte) : (s.toReg q p).b' = s.b' := by simp [State.toReg]
@[simp] theorem toReg_c' (q : Reg8) (p : Byte × Byte) : (s.toReg q p).c' = s.c' := by simp [State.toReg]
@[simp] theorem toReg_d' (q : Reg8) (p : Byte × Byte) : (s.toReg q p).d' = s.d' := by simp [State.toReg]
@[simp] theorem toReg_e' (q : Reg8) (p : Byte × Byte) : (s.toReg q p).e' = s.e' := by simp [State.toReg]
@[simp] theorem toReg_h' (q : Reg8) (p : Byte × Byte) : (s.toReg q p).h' = s.h' := by simp [State.toReg]
@[simp] theorem toReg_l' (q : Reg8) (p : Byte × Byte) : (s.toReg q p).l' = s.l' := by simp [State.toReg]
@[simp] theorem toReg_i (q : Reg8) (p : Byte × Byte) : (s.toReg q p).i = s.i := by simp [State.toReg]
@[simp] theorem toReg_r (q : Reg8) (p : Byte × Byte) : (s.toReg q p).r = s.r := by simp [State.toReg]
@[simp] theorem toReg_ix (q : Reg8) (p : Byte × Byte) : (s.toReg q p).ix = s.ix := by simp [State.toReg]
@[simp] theorem toReg_iy (q : Reg8) (p : Byte × Byte) : (s.toReg q p).iy = s.iy := by simp [State.toReg]
@[simp] theorem toReg_sp (q : Reg8) (p : Byte × Byte) : (s.toReg q p).sp = s.sp := by simp [State.toReg]
@[simp] theorem toReg_pc (q : Reg8) (p : Byte × Byte) : (s.toReg q p).pc = s.pc := by simp [State.toReg]
@[simp] theorem toReg_iff1 (q : Reg8) (p : Byte × Byte) : (s.toReg q p).iff1 = s.iff1 := by simp [State.toReg]
@[simp] theorem toReg_iff2 (q : Reg8) (p : Byte × Byte) : (s.toReg q p).iff2 = s.iff2 := by simp [State.toReg]
@[simp] theorem toReg_im (q : Reg8) (p : Byte × Byte) : (s.toReg q p).im = s.im := by simp [State.toReg]
@[simp] theorem toReg_halted (q : Reg8) (p : Byte × Byte) : (s.toReg q p).halted = s.halted := by simp [State.toReg]
@[simp] theorem toReg_eiPending (q : Reg8) (p : Byte × Byte) :
    (s.toReg q p).eiPending = s.eiPending := by simp [State.toReg]
@[simp] theorem toReg_mem (q : Reg8) (p : Byte × Byte) : (s.toReg q p).mem = s.mem := by simp [State.toReg]
@[simp] theorem toReg_portLog (q : Reg8) (p : Byte × Byte) :
    (s.toReg q p).portLog = s.portLog := by simp [State.toReg]
@[simp] theorem toReg_cfg (q : Reg8) (p : Byte × Byte) : (s.toReg q p).cfg = s.cfg := by simp [State.toReg]
@[simp] theorem toReg_lines (q : Reg8) (p : Byte × Byte) : (s.toReg q p).lines = s.lines := by simp [State.toReg]
@[simp] theorem toReg_portIn (q : Reg8) (p : Byte × Byte) : (s.toReg q p).portIn = s.portIn := by simp [State.toReg]
@[simp] theorem toReg_draws (q : Reg8) (p : Byte × Byte) : (s.toReg q p).draws = s.draws := by simp [State.toReg]

/-! ## `toMem` -/

@[simp] theorem toMem_a (addr : Word) (p : Byte × Byte) : (s.toMem addr p).a = s.a := by simp [State.toMem]
@[simp] theorem toMem_f (addr : Word) (p : Byte × Byte) : (s.toMem addr p).f = p.2 := by simp [State.toMem]
@[simp] theorem toMem_b (addr : Word) (p : Byte × Byte) : (s.toMem addr p).b = s.b := by simp [State.toMem]
@[simp] theorem toMem_c (addr : Word) (p : Byte × Byte) : (s.toMem addr p).c = s.c := by simp [State.toMem]
@[simp] theorem toMem_d (addr : Word) (p : Byte × Byte) : (s.toMem addr p).d = s.d := by simp [State.toMem]
@[simp] theorem toMem_e (addr : Word) (p : Byte × Byte) : (s.toMem addr p).e = s.e := by simp [State.toMem]
@[simp] theorem toMem_h (addr : Word) (p : Byte × Byte) : (s.toMem addr p).h = s.h := by simp [State.toMem]
@[simp] theorem toMem_l (addr : Word) (p : Byte × Byte) : (s.toMem addr p).l = s.l := by simp [State.toMem]
@[simp] theorem toMem_a' (addr : Word) (p : Byte × Byte) : (s.toMem addr p).a' = s.a' := by simp [State.toMem]
@[simp] theorem toMem_f' (addr : Word) (p : Byte × Byte) : (s.toMem addr p).f' = s.f' := by simp [State.toMem]
@[simp] theorem toMem_b' (addr : Word) (p : Byte × Byte) : (s.toMem addr p).b' = s.b' := by simp [State.toMem]
@[simp] theorem toMem_c' (addr : Word) (p : Byte × Byte) : (s.toMem addr p).c' = s.c' := by simp [State.toMem]
@[simp] theorem toMem_d' (addr : Word) (p : Byte × Byte) : (s.toMem addr p).d' = s.d' := by simp [State.toMem]
@[simp] theorem toMem_e' (addr : Word) (p : Byte × Byte) : (s.toMem addr p).e' = s.e' := by simp [State.toMem]
@[simp] theorem toMem_h' (addr : Word) (p : Byte × Byte) : (s.toMem addr p).h' = s.h' := by simp [State.toMem]
@[simp] theorem toMem_l' (addr : Word) (p : Byte × Byte) : (s.toMem addr p).l' = s.l' := by simp [State.toMem]
@[simp] theorem toMem_i (addr : Word) (p : Byte × Byte) : (s.toMem addr p).i = s.i := by simp [State.toMem]
@[simp] theorem toMem_r (addr : Word) (p : Byte × Byte) : (s.toMem addr p).r = s.r := by simp [State.toMem]
@[simp] theorem toMem_ix (addr : Word) (p : Byte × Byte) : (s.toMem addr p).ix = s.ix := by simp [State.toMem]
@[simp] theorem toMem_iy (addr : Word) (p : Byte × Byte) : (s.toMem addr p).iy = s.iy := by simp [State.toMem]
@[simp] theorem toMem_sp (addr : Word) (p : Byte × Byte) : (s.toMem addr p).sp = s.sp := by simp [State.toMem]
@[simp] theorem toMem_pc (addr : Word) (p : Byte × Byte) : (s.toMem addr p).pc = s.pc := by simp [State.toMem]
@[simp] theorem toMem_iff1 (addr : Word) (p : Byte × Byte) : (s.toMem addr p).iff1 = s.iff1 := by simp [State.toMem]
@[simp] theorem toMem_iff2 (addr : Word) (p : Byte × Byte) : (s.toMem addr p).iff2 = s.iff2 := by simp [State.toMem]
@[simp] theorem toMem_im (addr : Word) (p : Byte × Byte) : (s.toMem addr p).im = s.im := by simp [State.toMem]
@[simp] theorem toMem_halted (addr : Word) (p : Byte × Byte) :
    (s.toMem addr p).halted = s.halted := by simp [State.toMem]
@[simp] theorem toMem_eiPending (addr : Word) (p : Byte × Byte) :
    (s.toMem addr p).eiPending = s.eiPending := by simp [State.toMem]
@[simp] theorem toMem_mem (addr : Word) (p : Byte × Byte) :
    (s.toMem addr p).mem = (s.write8 addr p.1).mem := by simp [State.toMem]
@[simp] theorem toMem_portLog (addr : Word) (p : Byte × Byte) :
    (s.toMem addr p).portLog = s.portLog := by simp [State.toMem]
@[simp] theorem toMem_cfg (addr : Word) (p : Byte × Byte) : (s.toMem addr p).cfg = s.cfg := by simp [State.toMem]
@[simp] theorem toMem_lines (addr : Word) (p : Byte × Byte) :
    (s.toMem addr p).lines = s.lines := by simp [State.toMem]
@[simp] theorem toMem_portIn (addr : Word) (p : Byte × Byte) :
    (s.toMem addr p).portIn = s.portIn := by simp [State.toMem]
@[simp] theorem toMem_draws (addr : Word) (p : Byte × Byte) :
    (s.toMem addr p).draws = s.draws := by simp [State.toMem]

/-! ## `toHl` -/

@[simp] theorem toHl_a (p : Word × Byte) : (s.toHl p).a = s.a := by simp [State.toHl]
@[simp] theorem toHl_f (p : Word × Byte) : (s.toHl p).f = p.2 := by simp [State.toHl]
@[simp] theorem toHl_b (p : Word × Byte) : (s.toHl p).b = s.b := by simp [State.toHl]
@[simp] theorem toHl_c (p : Word × Byte) : (s.toHl p).c = s.c := by simp [State.toHl]
@[simp] theorem toHl_d (p : Word × Byte) : (s.toHl p).d = s.d := by simp [State.toHl]
@[simp] theorem toHl_e (p : Word × Byte) : (s.toHl p).e = s.e := by simp [State.toHl]
@[simp] theorem toHl_h (p : Word × Byte) : (s.toHl p).h = hiByte p.1 := by simp [State.toHl]
@[simp] theorem toHl_l (p : Word × Byte) : (s.toHl p).l = loByte p.1 := by simp [State.toHl]
@[simp] theorem toHl_a' (p : Word × Byte) : (s.toHl p).a' = s.a' := by simp [State.toHl]
@[simp] theorem toHl_f' (p : Word × Byte) : (s.toHl p).f' = s.f' := by simp [State.toHl]
@[simp] theorem toHl_b' (p : Word × Byte) : (s.toHl p).b' = s.b' := by simp [State.toHl]
@[simp] theorem toHl_c' (p : Word × Byte) : (s.toHl p).c' = s.c' := by simp [State.toHl]
@[simp] theorem toHl_d' (p : Word × Byte) : (s.toHl p).d' = s.d' := by simp [State.toHl]
@[simp] theorem toHl_e' (p : Word × Byte) : (s.toHl p).e' = s.e' := by simp [State.toHl]
@[simp] theorem toHl_h' (p : Word × Byte) : (s.toHl p).h' = s.h' := by simp [State.toHl]
@[simp] theorem toHl_l' (p : Word × Byte) : (s.toHl p).l' = s.l' := by simp [State.toHl]
@[simp] theorem toHl_i (p : Word × Byte) : (s.toHl p).i = s.i := by simp [State.toHl]
@[simp] theorem toHl_r (p : Word × Byte) : (s.toHl p).r = s.r := by simp [State.toHl]
@[simp] theorem toHl_ix (p : Word × Byte) : (s.toHl p).ix = s.ix := by simp [State.toHl]
@[simp] theorem toHl_iy (p : Word × Byte) : (s.toHl p).iy = s.iy := by simp [State.toHl]
@[simp] theorem toHl_sp (p : Word × Byte) : (s.toHl p).sp = s.sp := by simp [State.toHl]
@[simp] theorem toHl_pc (p : Word × Byte) : (s.toHl p).pc = s.pc := by simp [State.toHl]
@[simp] theorem toHl_iff1 (p : Word × Byte) : (s.toHl p).iff1 = s.iff1 := by simp [State.toHl]
@[simp] theorem toHl_iff2 (p : Word × Byte) : (s.toHl p).iff2 = s.iff2 := by simp [State.toHl]
@[simp] theorem toHl_im (p : Word × Byte) : (s.toHl p).im = s.im := by simp [State.toHl]
@[simp] theorem toHl_halted (p : Word × Byte) : (s.toHl p).halted = s.halted := by simp [State.toHl]
@[simp] theorem toHl_eiPending (p : Word × Byte) : (s.toHl p).eiPending = s.eiPending := by simp [State.toHl]
@[simp] theorem toHl_mem (p : Word × Byte) : (s.toHl p).mem = s.mem := by simp [State.toHl]
@[simp] theorem toHl_portLog (p : Word × Byte) : (s.toHl p).portLog = s.portLog := by simp [State.toHl]
@[simp] theorem toHl_cfg (p : Word × Byte) : (s.toHl p).cfg = s.cfg := by simp [State.toHl]
@[simp] theorem toHl_lines (p : Word × Byte) : (s.toHl p).lines = s.lines := by simp [State.toHl]
@[simp] theorem toHl_portIn (p : Word × Byte) : (s.toHl p).portIn = s.portIn := by simp [State.toHl]
@[simp] theorem toHl_draws (p : Word × Byte) : (s.toHl p).draws = s.draws := by simp [State.toHl]

/-! ## `toIndex` -/

@[simp] theorem toIndex_a (x : Index) (p : Word × Byte) : (s.toIndex x p).a = s.a := by simp [State.toIndex]
@[simp] theorem toIndex_f (x : Index) (p : Word × Byte) : (s.toIndex x p).f = p.2 := by simp [State.toIndex]
@[simp] theorem toIndex_b (x : Index) (p : Word × Byte) : (s.toIndex x p).b = s.b := by simp [State.toIndex]
@[simp] theorem toIndex_c (x : Index) (p : Word × Byte) : (s.toIndex x p).c = s.c := by simp [State.toIndex]
@[simp] theorem toIndex_d (x : Index) (p : Word × Byte) : (s.toIndex x p).d = s.d := by simp [State.toIndex]
@[simp] theorem toIndex_e (x : Index) (p : Word × Byte) : (s.toIndex x p).e = s.e := by simp [State.toIndex]
@[simp] theorem toIndex_h (x : Index) (p : Word × Byte) : (s.toIndex x p).h = s.h := by simp [State.toIndex]
@[simp] theorem toIndex_l (x : Index) (p : Word × Byte) : (s.toIndex x p).l = s.l := by simp [State.toIndex]
@[simp] theorem toIndex_a' (x : Index) (p : Word × Byte) : (s.toIndex x p).a' = s.a' := by simp [State.toIndex]
@[simp] theorem toIndex_f' (x : Index) (p : Word × Byte) : (s.toIndex x p).f' = s.f' := by simp [State.toIndex]
@[simp] theorem toIndex_b' (x : Index) (p : Word × Byte) : (s.toIndex x p).b' = s.b' := by simp [State.toIndex]
@[simp] theorem toIndex_c' (x : Index) (p : Word × Byte) : (s.toIndex x p).c' = s.c' := by simp [State.toIndex]
@[simp] theorem toIndex_d' (x : Index) (p : Word × Byte) : (s.toIndex x p).d' = s.d' := by simp [State.toIndex]
@[simp] theorem toIndex_e' (x : Index) (p : Word × Byte) : (s.toIndex x p).e' = s.e' := by simp [State.toIndex]
@[simp] theorem toIndex_h' (x : Index) (p : Word × Byte) : (s.toIndex x p).h' = s.h' := by simp [State.toIndex]
@[simp] theorem toIndex_l' (x : Index) (p : Word × Byte) : (s.toIndex x p).l' = s.l' := by simp [State.toIndex]
@[simp] theorem toIndex_i (x : Index) (p : Word × Byte) : (s.toIndex x p).i = s.i := by simp [State.toIndex]
@[simp] theorem toIndex_r (x : Index) (p : Word × Byte) : (s.toIndex x p).r = s.r := by simp [State.toIndex]
@[simp] theorem toIndex_sp (x : Index) (p : Word × Byte) : (s.toIndex x p).sp = s.sp := by simp [State.toIndex]
@[simp] theorem toIndex_pc (x : Index) (p : Word × Byte) : (s.toIndex x p).pc = s.pc := by simp [State.toIndex]
@[simp] theorem toIndex_iff1 (x : Index) (p : Word × Byte) : (s.toIndex x p).iff1 = s.iff1 := by simp [State.toIndex]
@[simp] theorem toIndex_iff2 (x : Index) (p : Word × Byte) : (s.toIndex x p).iff2 = s.iff2 := by simp [State.toIndex]
@[simp] theorem toIndex_im (x : Index) (p : Word × Byte) : (s.toIndex x p).im = s.im := by simp [State.toIndex]
@[simp] theorem toIndex_halted (x : Index) (p : Word × Byte) :
    (s.toIndex x p).halted = s.halted := by simp [State.toIndex]
@[simp] theorem toIndex_eiPending (x : Index) (p : Word × Byte) :
    (s.toIndex x p).eiPending = s.eiPending := by simp [State.toIndex]
@[simp] theorem toIndex_mem (x : Index) (p : Word × Byte) : (s.toIndex x p).mem = s.mem := by simp [State.toIndex]
@[simp] theorem toIndex_portLog (x : Index) (p : Word × Byte) :
    (s.toIndex x p).portLog = s.portLog := by simp [State.toIndex]
@[simp] theorem toIndex_cfg (x : Index) (p : Word × Byte) : (s.toIndex x p).cfg = s.cfg := by simp [State.toIndex]
@[simp] theorem toIndex_lines (x : Index) (p : Word × Byte) :
    (s.toIndex x p).lines = s.lines := by simp [State.toIndex]
@[simp] theorem toIndex_portIn (x : Index) (p : Word × Byte) :
    (s.toIndex x p).portIn = s.portIn := by simp [State.toIndex]
@[simp] theorem toIndex_draws (x : Index) (p : Word × Byte) :
    (s.toIndex x p).draws = s.draws := by simp [State.toIndex]

/-! ## `jump` -/

@[simp] theorem jump_a (target : Word) : (s.jump target).a = s.a := rfl
@[simp] theorem jump_f (target : Word) : (s.jump target).f = s.f := rfl
@[simp] theorem jump_b (target : Word) : (s.jump target).b = s.b := rfl
@[simp] theorem jump_c (target : Word) : (s.jump target).c = s.c := rfl
@[simp] theorem jump_d (target : Word) : (s.jump target).d = s.d := rfl
@[simp] theorem jump_e (target : Word) : (s.jump target).e = s.e := rfl
@[simp] theorem jump_h (target : Word) : (s.jump target).h = s.h := rfl
@[simp] theorem jump_l (target : Word) : (s.jump target).l = s.l := rfl
@[simp] theorem jump_a' (target : Word) : (s.jump target).a' = s.a' := rfl
@[simp] theorem jump_f' (target : Word) : (s.jump target).f' = s.f' := rfl
@[simp] theorem jump_b' (target : Word) : (s.jump target).b' = s.b' := rfl
@[simp] theorem jump_c' (target : Word) : (s.jump target).c' = s.c' := rfl
@[simp] theorem jump_d' (target : Word) : (s.jump target).d' = s.d' := rfl
@[simp] theorem jump_e' (target : Word) : (s.jump target).e' = s.e' := rfl
@[simp] theorem jump_h' (target : Word) : (s.jump target).h' = s.h' := rfl
@[simp] theorem jump_l' (target : Word) : (s.jump target).l' = s.l' := rfl
@[simp] theorem jump_i (target : Word) : (s.jump target).i = s.i := rfl
@[simp] theorem jump_r (target : Word) : (s.jump target).r = s.r := rfl
@[simp] theorem jump_ix (target : Word) : (s.jump target).ix = s.ix := rfl
@[simp] theorem jump_iy (target : Word) : (s.jump target).iy = s.iy := rfl
@[simp] theorem jump_sp (target : Word) : (s.jump target).sp = s.sp := rfl
@[simp] theorem jump_pc (target : Word) : (s.jump target).pc = target := rfl
@[simp] theorem jump_iff1 (target : Word) : (s.jump target).iff1 = s.iff1 := rfl
@[simp] theorem jump_iff2 (target : Word) : (s.jump target).iff2 = s.iff2 := rfl
@[simp] theorem jump_im (target : Word) : (s.jump target).im = s.im := rfl
@[simp] theorem jump_halted (target : Word) : (s.jump target).halted = s.halted := rfl
@[simp] theorem jump_eiPending (target : Word) : (s.jump target).eiPending = s.eiPending := rfl
@[simp] theorem jump_mem (target : Word) : (s.jump target).mem = s.mem := rfl
@[simp] theorem jump_portLog (target : Word) : (s.jump target).portLog = s.portLog := rfl
@[simp] theorem jump_cfg (target : Word) : (s.jump target).cfg = s.cfg := rfl
@[simp] theorem jump_lines (target : Word) : (s.jump target).lines = s.lines := rfl
@[simp] theorem jump_portIn (target : Word) : (s.jump target).portIn = s.portIn := rfl
@[simp] theorem jump_draws (target : Word) : (s.jump target).draws = s.draws := rfl

/-! ## `call` -/

@[simp] theorem call_a (target : Word) : (s.call target).a = s.a := by simp [State.call]
@[simp] theorem call_f (target : Word) : (s.call target).f = s.f := by simp [State.call]
@[simp] theorem call_b (target : Word) : (s.call target).b = s.b := by simp [State.call]
@[simp] theorem call_c (target : Word) : (s.call target).c = s.c := by simp [State.call]
@[simp] theorem call_d (target : Word) : (s.call target).d = s.d := by simp [State.call]
@[simp] theorem call_e (target : Word) : (s.call target).e = s.e := by simp [State.call]
@[simp] theorem call_h (target : Word) : (s.call target).h = s.h := by simp [State.call]
@[simp] theorem call_l (target : Word) : (s.call target).l = s.l := by simp [State.call]
@[simp] theorem call_a' (target : Word) : (s.call target).a' = s.a' := by simp [State.call]
@[simp] theorem call_f' (target : Word) : (s.call target).f' = s.f' := by simp [State.call]
@[simp] theorem call_b' (target : Word) : (s.call target).b' = s.b' := by simp [State.call]
@[simp] theorem call_c' (target : Word) : (s.call target).c' = s.c' := by simp [State.call]
@[simp] theorem call_d' (target : Word) : (s.call target).d' = s.d' := by simp [State.call]
@[simp] theorem call_e' (target : Word) : (s.call target).e' = s.e' := by simp [State.call]
@[simp] theorem call_h' (target : Word) : (s.call target).h' = s.h' := by simp [State.call]
@[simp] theorem call_l' (target : Word) : (s.call target).l' = s.l' := by simp [State.call]
@[simp] theorem call_i (target : Word) : (s.call target).i = s.i := by simp [State.call]
@[simp] theorem call_r (target : Word) : (s.call target).r = s.r := by simp [State.call]
@[simp] theorem call_ix (target : Word) : (s.call target).ix = s.ix := by simp [State.call]
@[simp] theorem call_iy (target : Word) : (s.call target).iy = s.iy := by simp [State.call]
@[simp] theorem call_sp (target : Word) : (s.call target).sp = s.sp - 2 := by simp [State.call]
@[simp] theorem call_pc (target : Word) : (s.call target).pc = target := by simp [State.call]
@[simp] theorem call_iff1 (target : Word) : (s.call target).iff1 = s.iff1 := by simp [State.call]
@[simp] theorem call_iff2 (target : Word) : (s.call target).iff2 = s.iff2 := by simp [State.call]
@[simp] theorem call_im (target : Word) : (s.call target).im = s.im := by simp [State.call]
@[simp] theorem call_halted (target : Word) : (s.call target).halted = s.halted := by simp [State.call]
@[simp] theorem call_eiPending (target : Word) : (s.call target).eiPending = s.eiPending := by simp [State.call]
@[simp] theorem call_mem (target : Word) : (s.call target).mem = (s.push16 s.pc).mem := by simp [State.call]
@[simp] theorem call_portLog (target : Word) : (s.call target).portLog = s.portLog := by simp [State.call]
@[simp] theorem call_cfg (target : Word) : (s.call target).cfg = s.cfg := by simp [State.call]
@[simp] theorem call_lines (target : Word) : (s.call target).lines = s.lines := by simp [State.call]
@[simp] theorem call_portIn (target : Word) : (s.call target).portIn = s.portIn := by simp [State.call]
@[simp] theorem call_draws (target : Word) : (s.call target).draws = s.draws := by simp [State.call]

/-! ## `ret` -/

@[simp] theorem ret_a : s.ret.a = s.a := by simp [State.ret]
@[simp] theorem ret_f : s.ret.f = s.f := by simp [State.ret]
@[simp] theorem ret_b : s.ret.b = s.b := by simp [State.ret]
@[simp] theorem ret_c : s.ret.c = s.c := by simp [State.ret]
@[simp] theorem ret_d : s.ret.d = s.d := by simp [State.ret]
@[simp] theorem ret_e : s.ret.e = s.e := by simp [State.ret]
@[simp] theorem ret_h : s.ret.h = s.h := by simp [State.ret]
@[simp] theorem ret_l : s.ret.l = s.l := by simp [State.ret]
@[simp] theorem ret_a' : s.ret.a' = s.a' := by simp [State.ret]
@[simp] theorem ret_f' : s.ret.f' = s.f' := by simp [State.ret]
@[simp] theorem ret_b' : s.ret.b' = s.b' := by simp [State.ret]
@[simp] theorem ret_c' : s.ret.c' = s.c' := by simp [State.ret]
@[simp] theorem ret_d' : s.ret.d' = s.d' := by simp [State.ret]
@[simp] theorem ret_e' : s.ret.e' = s.e' := by simp [State.ret]
@[simp] theorem ret_h' : s.ret.h' = s.h' := by simp [State.ret]
@[simp] theorem ret_l' : s.ret.l' = s.l' := by simp [State.ret]
@[simp] theorem ret_i : s.ret.i = s.i := by simp [State.ret]
@[simp] theorem ret_r : s.ret.r = s.r := by simp [State.ret]
@[simp] theorem ret_ix : s.ret.ix = s.ix := by simp [State.ret]
@[simp] theorem ret_iy : s.ret.iy = s.iy := by simp [State.ret]
@[simp] theorem ret_sp : s.ret.sp = s.sp + 2 := by simp [State.ret]
@[simp] theorem ret_pc : s.ret.pc = s.popped := by simp [State.ret]
@[simp] theorem ret_iff1 : s.ret.iff1 = s.iff1 := by simp [State.ret]
@[simp] theorem ret_iff2 : s.ret.iff2 = s.iff2 := by simp [State.ret]
@[simp] theorem ret_im : s.ret.im = s.im := by simp [State.ret]
@[simp] theorem ret_halted : s.ret.halted = s.halted := by simp [State.ret]
@[simp] theorem ret_eiPending : s.ret.eiPending = s.eiPending := by simp [State.ret]
@[simp] theorem ret_mem : s.ret.mem = s.mem := by simp [State.ret]
@[simp] theorem ret_portLog : s.ret.portLog = s.portLog := by simp [State.ret]
@[simp] theorem ret_cfg : s.ret.cfg = s.cfg := by simp [State.ret]
@[simp] theorem ret_lines : s.ret.lines = s.lines := by simp [State.ret]
@[simp] theorem ret_portIn : s.ret.portIn = s.portIn := by simp [State.ret]
@[simp] theorem ret_draws : s.ret.draws = s.draws := by simp [State.ret]

/-! ## `rewind` -/

@[simp] theorem rewind_a : s.rewind.a = s.a := rfl
@[simp] theorem rewind_f : s.rewind.f = s.f := rfl
@[simp] theorem rewind_b : s.rewind.b = s.b := rfl
@[simp] theorem rewind_c : s.rewind.c = s.c := rfl
@[simp] theorem rewind_d : s.rewind.d = s.d := rfl
@[simp] theorem rewind_e : s.rewind.e = s.e := rfl
@[simp] theorem rewind_h : s.rewind.h = s.h := rfl
@[simp] theorem rewind_l : s.rewind.l = s.l := rfl
@[simp] theorem rewind_a' : s.rewind.a' = s.a' := rfl
@[simp] theorem rewind_f' : s.rewind.f' = s.f' := rfl
@[simp] theorem rewind_b' : s.rewind.b' = s.b' := rfl
@[simp] theorem rewind_c' : s.rewind.c' = s.c' := rfl
@[simp] theorem rewind_d' : s.rewind.d' = s.d' := rfl
@[simp] theorem rewind_e' : s.rewind.e' = s.e' := rfl
@[simp] theorem rewind_h' : s.rewind.h' = s.h' := rfl
@[simp] theorem rewind_l' : s.rewind.l' = s.l' := rfl
@[simp] theorem rewind_i : s.rewind.i = s.i := rfl
@[simp] theorem rewind_r : s.rewind.r = s.r := rfl
@[simp] theorem rewind_ix : s.rewind.ix = s.ix := rfl
@[simp] theorem rewind_iy : s.rewind.iy = s.iy := rfl
@[simp] theorem rewind_sp : s.rewind.sp = s.sp := rfl
@[simp] theorem rewind_pc : s.rewind.pc = s.pc - 2 := rfl
@[simp] theorem rewind_iff1 : s.rewind.iff1 = s.iff1 := rfl
@[simp] theorem rewind_iff2 : s.rewind.iff2 = s.iff2 := rfl
@[simp] theorem rewind_im : s.rewind.im = s.im := rfl
@[simp] theorem rewind_halted : s.rewind.halted = s.halted := rfl
@[simp] theorem rewind_eiPending : s.rewind.eiPending = s.eiPending := rfl
@[simp] theorem rewind_mem : s.rewind.mem = s.mem := rfl
@[simp] theorem rewind_portLog : s.rewind.portLog = s.portLog := rfl
@[simp] theorem rewind_cfg : s.rewind.cfg = s.cfg := rfl
@[simp] theorem rewind_lines : s.rewind.lines = s.lines := rfl
@[simp] theorem rewind_portIn : s.rewind.portIn = s.portIn := rfl
@[simp] theorem rewind_draws : s.rewind.draws = s.draws := rfl

/-! ## `returnFromInterrupt` -/

@[simp] theorem returnFromInterrupt_a : s.returnFromInterrupt.a = s.a := by simp [State.returnFromInterrupt]
@[simp] theorem returnFromInterrupt_f : s.returnFromInterrupt.f = s.f := by simp [State.returnFromInterrupt]
@[simp] theorem returnFromInterrupt_b : s.returnFromInterrupt.b = s.b := by simp [State.returnFromInterrupt]
@[simp] theorem returnFromInterrupt_c : s.returnFromInterrupt.c = s.c := by simp [State.returnFromInterrupt]
@[simp] theorem returnFromInterrupt_d : s.returnFromInterrupt.d = s.d := by simp [State.returnFromInterrupt]
@[simp] theorem returnFromInterrupt_e : s.returnFromInterrupt.e = s.e := by simp [State.returnFromInterrupt]
@[simp] theorem returnFromInterrupt_h : s.returnFromInterrupt.h = s.h := by simp [State.returnFromInterrupt]
@[simp] theorem returnFromInterrupt_l : s.returnFromInterrupt.l = s.l := by simp [State.returnFromInterrupt]
@[simp] theorem returnFromInterrupt_a' : s.returnFromInterrupt.a' = s.a' := by simp [State.returnFromInterrupt]
@[simp] theorem returnFromInterrupt_f' : s.returnFromInterrupt.f' = s.f' := by simp [State.returnFromInterrupt]
@[simp] theorem returnFromInterrupt_b' : s.returnFromInterrupt.b' = s.b' := by simp [State.returnFromInterrupt]
@[simp] theorem returnFromInterrupt_c' : s.returnFromInterrupt.c' = s.c' := by simp [State.returnFromInterrupt]
@[simp] theorem returnFromInterrupt_d' : s.returnFromInterrupt.d' = s.d' := by simp [State.returnFromInterrupt]
@[simp] theorem returnFromInterrupt_e' : s.returnFromInterrupt.e' = s.e' := by simp [State.returnFromInterrupt]
@[simp] theorem returnFromInterrupt_h' : s.returnFromInterrupt.h' = s.h' := by simp [State.returnFromInterrupt]
@[simp] theorem returnFromInterrupt_l' : s.returnFromInterrupt.l' = s.l' := by simp [State.returnFromInterrupt]
@[simp] theorem returnFromInterrupt_i : s.returnFromInterrupt.i = s.i := by simp [State.returnFromInterrupt]
@[simp] theorem returnFromInterrupt_r : s.returnFromInterrupt.r = s.r := by simp [State.returnFromInterrupt]
@[simp] theorem returnFromInterrupt_ix : s.returnFromInterrupt.ix = s.ix := by simp [State.returnFromInterrupt]
@[simp] theorem returnFromInterrupt_iy : s.returnFromInterrupt.iy = s.iy := by simp [State.returnFromInterrupt]
@[simp] theorem returnFromInterrupt_sp : s.returnFromInterrupt.sp = s.sp + 2 := by simp [State.returnFromInterrupt]
@[simp] theorem returnFromInterrupt_pc : s.returnFromInterrupt.pc = s.popped := by simp [State.returnFromInterrupt]
@[simp] theorem returnFromInterrupt_iff1 : s.returnFromInterrupt.iff1 = s.iff2 := by simp [State.returnFromInterrupt]
@[simp] theorem returnFromInterrupt_iff2 : s.returnFromInterrupt.iff2 = s.iff2 := by simp [State.returnFromInterrupt]
@[simp] theorem returnFromInterrupt_im : s.returnFromInterrupt.im = s.im := by simp [State.returnFromInterrupt]
@[simp] theorem returnFromInterrupt_halted :
    s.returnFromInterrupt.halted = s.halted := by simp [State.returnFromInterrupt]
@[simp] theorem returnFromInterrupt_eiPending :
    s.returnFromInterrupt.eiPending = s.eiPending := by simp [State.returnFromInterrupt]
@[simp] theorem returnFromInterrupt_mem : s.returnFromInterrupt.mem = s.mem := by simp [State.returnFromInterrupt]
@[simp] theorem returnFromInterrupt_portLog :
    s.returnFromInterrupt.portLog = s.portLog := by simp [State.returnFromInterrupt]
@[simp] theorem returnFromInterrupt_cfg : s.returnFromInterrupt.cfg = s.cfg := by simp [State.returnFromInterrupt]
@[simp] theorem returnFromInterrupt_lines :
    s.returnFromInterrupt.lines = s.lines := by simp [State.returnFromInterrupt]
@[simp] theorem returnFromInterrupt_portIn :
    s.returnFromInterrupt.portIn = s.portIn := by simp [State.returnFromInterrupt]
@[simp] theorem returnFromInterrupt_draws :
    s.returnFromInterrupt.draws = s.draws := by simp [State.returnFromInterrupt]

/-! ## `unrecognised` -/

@[simp] theorem unrecognised_a : s.unrecognised.a = s.a := rfl
@[simp] theorem unrecognised_f : s.unrecognised.f = s.f := rfl
@[simp] theorem unrecognised_b : s.unrecognised.b = s.b := rfl
@[simp] theorem unrecognised_c : s.unrecognised.c = s.c := rfl
@[simp] theorem unrecognised_d : s.unrecognised.d = s.d := rfl
@[simp] theorem unrecognised_e : s.unrecognised.e = s.e := rfl
@[simp] theorem unrecognised_h : s.unrecognised.h = s.h := rfl
@[simp] theorem unrecognised_l : s.unrecognised.l = s.l := rfl
@[simp] theorem unrecognised_a' : s.unrecognised.a' = s.a' := rfl
@[simp] theorem unrecognised_f' : s.unrecognised.f' = s.f' := rfl
@[simp] theorem unrecognised_b' : s.unrecognised.b' = s.b' := rfl
@[simp] theorem unrecognised_c' : s.unrecognised.c' = s.c' := rfl
@[simp] theorem unrecognised_d' : s.unrecognised.d' = s.d' := rfl
@[simp] theorem unrecognised_e' : s.unrecognised.e' = s.e' := rfl
@[simp] theorem unrecognised_h' : s.unrecognised.h' = s.h' := rfl
@[simp] theorem unrecognised_l' : s.unrecognised.l' = s.l' := rfl
@[simp] theorem unrecognised_i : s.unrecognised.i = s.i := rfl
@[simp] theorem unrecognised_r : s.unrecognised.r = s.r := rfl
@[simp] theorem unrecognised_ix : s.unrecognised.ix = s.ix := rfl
@[simp] theorem unrecognised_iy : s.unrecognised.iy = s.iy := rfl
@[simp] theorem unrecognised_sp : s.unrecognised.sp = s.sp := rfl
@[simp] theorem unrecognised_pc : s.unrecognised.pc = s.pc := rfl
@[simp] theorem unrecognised_iff1 : s.unrecognised.iff1 = s.iff1 := rfl
@[simp] theorem unrecognised_iff2 : s.unrecognised.iff2 = s.iff2 := rfl
@[simp] theorem unrecognised_im : s.unrecognised.im = s.im := rfl
@[simp] theorem unrecognised_halted : s.unrecognised.halted = true := rfl
@[simp] theorem unrecognised_eiPending : s.unrecognised.eiPending = s.eiPending := rfl
@[simp] theorem unrecognised_mem : s.unrecognised.mem = s.mem := rfl
@[simp] theorem unrecognised_portLog : s.unrecognised.portLog = s.portLog := rfl
@[simp] theorem unrecognised_cfg : s.unrecognised.cfg = s.cfg := rfl
@[simp] theorem unrecognised_lines : s.unrecognised.lines = s.lines := rfl
@[simp] theorem unrecognised_portIn : s.unrecognised.portIn = s.portIn := rfl
@[simp] theorem unrecognised_draws : s.unrecognised.draws = s.draws := rfl

/-! ## `polled` -/

@[simp] theorem polled_a : s.polled.a = s.a := rfl
@[simp] theorem polled_f : s.polled.f = s.f := rfl
@[simp] theorem polled_b : s.polled.b = s.b := rfl
@[simp] theorem polled_c : s.polled.c = s.c := rfl
@[simp] theorem polled_d : s.polled.d = s.d := rfl
@[simp] theorem polled_e : s.polled.e = s.e := rfl
@[simp] theorem polled_h : s.polled.h = s.h := rfl
@[simp] theorem polled_l : s.polled.l = s.l := rfl
@[simp] theorem polled_a' : s.polled.a' = s.a' := rfl
@[simp] theorem polled_f' : s.polled.f' = s.f' := rfl
@[simp] theorem polled_b' : s.polled.b' = s.b' := rfl
@[simp] theorem polled_c' : s.polled.c' = s.c' := rfl
@[simp] theorem polled_d' : s.polled.d' = s.d' := rfl
@[simp] theorem polled_e' : s.polled.e' = s.e' := rfl
@[simp] theorem polled_h' : s.polled.h' = s.h' := rfl
@[simp] theorem polled_l' : s.polled.l' = s.l' := rfl
@[simp] theorem polled_i : s.polled.i = s.i := rfl
@[simp] theorem polled_r : s.polled.r = s.r := rfl
@[simp] theorem polled_ix : s.polled.ix = s.ix := rfl
@[simp] theorem polled_iy : s.polled.iy = s.iy := rfl
@[simp] theorem polled_sp : s.polled.sp = s.sp := rfl
@[simp] theorem polled_pc : s.polled.pc = s.pc := rfl
@[simp] theorem polled_iff1 : s.polled.iff1 = s.iff1 := rfl
@[simp] theorem polled_iff2 : s.polled.iff2 = s.iff2 := rfl
@[simp] theorem polled_im : s.polled.im = s.im := rfl
@[simp] theorem polled_halted : s.polled.halted = s.halted := rfl
@[simp] theorem polled_eiPending : s.polled.eiPending = false := rfl
@[simp] theorem polled_mem : s.polled.mem = s.mem := rfl
@[simp] theorem polled_portLog : s.polled.portLog = s.portLog := rfl
@[simp] theorem polled_cfg : s.polled.cfg = s.cfg := rfl
@[simp] theorem polled_lines : s.polled.lines = s.lines.tail := rfl
@[simp] theorem polled_portIn : s.polled.portIn = s.portIn := rfl
@[simp] theorem polled_draws : s.polled.draws = if s.lines.isEmpty then s.draws + 1 else s.draws := rfl

/-! ## `past` -/

@[simp] theorem past_a (i : Instr) : (s.past i).a = s.a := rfl
@[simp] theorem past_f (i : Instr) : (s.past i).f = s.f := rfl
@[simp] theorem past_b (i : Instr) : (s.past i).b = s.b := rfl
@[simp] theorem past_c (i : Instr) : (s.past i).c = s.c := rfl
@[simp] theorem past_d (i : Instr) : (s.past i).d = s.d := rfl
@[simp] theorem past_e (i : Instr) : (s.past i).e = s.e := rfl
@[simp] theorem past_h (i : Instr) : (s.past i).h = s.h := rfl
@[simp] theorem past_l (i : Instr) : (s.past i).l = s.l := rfl
@[simp] theorem past_a' (i : Instr) : (s.past i).a' = s.a' := rfl
@[simp] theorem past_f' (i : Instr) : (s.past i).f' = s.f' := rfl
@[simp] theorem past_b' (i : Instr) : (s.past i).b' = s.b' := rfl
@[simp] theorem past_c' (i : Instr) : (s.past i).c' = s.c' := rfl
@[simp] theorem past_d' (i : Instr) : (s.past i).d' = s.d' := rfl
@[simp] theorem past_e' (i : Instr) : (s.past i).e' = s.e' := rfl
@[simp] theorem past_h' (i : Instr) : (s.past i).h' = s.h' := rfl
@[simp] theorem past_l' (i : Instr) : (s.past i).l' = s.l' := rfl
@[simp] theorem past_i (i : Instr) : (s.past i).i = s.i := rfl
@[simp] theorem past_r (i : Instr) : (s.past i).r = s.r := rfl
@[simp] theorem past_ix (i : Instr) : (s.past i).ix = s.ix := rfl
@[simp] theorem past_iy (i : Instr) : (s.past i).iy = s.iy := rfl
@[simp] theorem past_sp (i : Instr) : (s.past i).sp = s.sp := rfl
@[simp] theorem past_pc (i : Instr) : (s.past i).pc = s.pc + BitVec.ofNat 16 i.length := rfl
@[simp] theorem past_iff1 (i : Instr) : (s.past i).iff1 = s.iff1 := rfl
@[simp] theorem past_iff2 (i : Instr) : (s.past i).iff2 = s.iff2 := rfl
@[simp] theorem past_im (i : Instr) : (s.past i).im = s.im := rfl
@[simp] theorem past_halted (i : Instr) : (s.past i).halted = s.halted := rfl
@[simp] theorem past_eiPending (i : Instr) : (s.past i).eiPending = s.eiPending := rfl
@[simp] theorem past_mem (i : Instr) : (s.past i).mem = s.mem := rfl
@[simp] theorem past_portLog (i : Instr) : (s.past i).portLog = s.portLog := rfl
@[simp] theorem past_cfg (i : Instr) : (s.past i).cfg = s.cfg := rfl
@[simp] theorem past_lines (i : Instr) : (s.past i).lines = s.lines := rfl
@[simp] theorem past_portIn (i : Instr) : (s.past i).portIn = s.portIn := rfl
@[simp] theorem past_draws (i : Instr) : (s.past i).draws = s.draws := rfl

end Sys2Proof.Machine
end

