-- ==== Sys2Proof/Laws/Ops.lean ====
section
/-! SUPPORT. One lemma for each shared operation that says everything it can do: memory and stack, registers and views, the
R credit, costs, and taking an interrupt. -/

namespace Sys2Proof.Machine

variable (s : State)

/-! ## Registers and views -/

theorem reg_setReg (q p : Reg8) (v : Byte) : (s.setReg q v).reg p = if p = q then v else s.reg p := by
  cases q <;> cases p <;> rfl

@[simp] theorem reg_setReg_same (q : Reg8) (v : Byte) : (s.setReg q v).reg q = v := by simp [reg_setReg]

theorem pair_setPair_same (p : Pair) (v : Word) : (s.setPair p v).pair p = v := by
  cases p <;> simp [State.setPair, State.pair, State.bc, State.de, State.hl]

theorem pair_setPair_ne {p q : Pair} (v : Word) (h : q ≠ p) : (s.setPair p v).pair q = s.pair q := by
  cases p <;> cases q <;> first | exact absurd rfl h | rfl

theorem stackPair_setStackPair_same (q : StackPair) (v : Word) : (s.setStackPair q v).stackPair q = v := by
  cases q <;> simp [State.setStackPair, State.stackPair, State.bc, State.de, State.hl, State.af]

theorem stackPair_setStackPair_ne {p q : StackPair} (v : Word) (h : q ≠ p) :
    (s.setStackPair p v).stackPair q = s.stackPair q := by
  cases p <;> cases q <;> first | exact absurd rfl h | rfl

@[simp] theorem index_setIndex_same (x : Index) (v : Word) : (s.setIndex x v).index x = v := by cases x <;> rfl

@[simp] theorem index_ix : s.index .ix = s.ix := rfl
@[simp] theorem index_iy : s.index .iy = s.iy := rfl
@[simp] theorem setIndex_ix_ix (v : Word) : (s.setIndex .ix v).ix = v := rfl
@[simp] theorem setIndex_ix_iy (v : Word) : (s.setIndex .ix v).iy = s.iy := rfl
@[simp] theorem setIndex_iy_iy (v : Word) : (s.setIndex .iy v).iy = v := rfl
@[simp] theorem setIndex_iy_ix (v : Word) : (s.setIndex .iy v).ix = s.ix := rfl

@[simp] theorem toIndex_ix_ix (p : Word × Byte) : (s.toIndex .ix p).ix = p.1 := rfl
@[simp] theorem toIndex_ix_iy (p : Word × Byte) : (s.toIndex .ix p).iy = s.iy := rfl
@[simp] theorem toIndex_iy_iy (p : Word × Byte) : (s.toIndex .iy p).iy = p.1 := rfl
@[simp] theorem toIndex_iy_ix (p : Word × Byte) : (s.toIndex .iy p).ix = s.ix := rfl

/-- The pairs depend only on their bytes and SP. -/
theorem pair_congr {s t : State} (hb : t.b = s.b) (hc : t.c = s.c) (hd : t.d = s.d) (he : t.e = s.e) (hh : t.h = s.h)
    (hl : t.l = s.l) (hs : t.sp = s.sp) (p : Pair) : t.pair p = s.pair p := by
  cases p <;> simp [State.pair, State.bc, State.de, State.hl, *]

/-- The stack pairs depend only on their bytes. -/
theorem stackPair_congr {s t : State} (ha : t.a = s.a) (hf : t.f = s.f) (hb : t.b = s.b) (hc : t.c = s.c) (hd : t.d = s.d)
    (he : t.e = s.e) (hh : t.h = s.h) (hl : t.l = s.l) (q : StackPair) : t.stackPair q = s.stackPair q := by
  cases q <;> simp [State.stackPair, State.bc, State.de, State.hl, State.af, *]

@[simp] theorem bc_setBc (v : Word) : (s.setBc v).bc = v := by simp [State.bc]
@[simp] theorem de_setDe (v : Word) : (s.setDe v).de = v := by simp [State.de]
@[simp] theorem hl_setHl (v : Word) : (s.setHl v).hl = v := by simp [State.hl]
@[simp] theorem af_setAf (v : Word) : (s.setAf v).af = v := by simp [State.af]

/-! ## Memory -/

/-- What a byte reads as after a write (R71, R72). -/
theorem read8_write8 (hm : Memory.wf s.mem = true) (addr x : Word) (v : Byte) :
    (s.write8 addr v).read8 x =
      if x = addr ∧ s.cfg.romBoundary ≤ addr.toNat then v else s.read8 x := by
  unfold State.read8 State.write8
  by_cases h : addr.toNat < s.cfg.romBoundary
  · simp [h]
  · have h' : s.cfg.romBoundary ≤ addr.toNat := by omega
    simp only [if_neg h, Memory.get_set v hm, h', and_true, BitVec.toNat_inj]

theorem wf_write8 (hm : Memory.wf s.mem = true) (addr : Word) (v : Byte) :
    Memory.wf (s.write8 addr v).mem = true := by
  unfold State.write8
  split
  · exact hm
  · exact Memory.wf_set v (by simpa [Memory.size] using addr.isLt) hm

/-- Two states with one memory and one set of parameters read alike. -/
theorem read8_congr {s t : State} (h : t.mem = s.mem) (x : Word) : t.read8 x = s.read8 x := by simp [State.read8, h]

theorem read16_congr {s t : State} (h : t.mem = s.mem) (x : Word) : t.read16 x = s.read16 x := by
  simp [State.read16, State.read8, h]

theorem add_one_ne (a : Word) : a + 1 ≠ a := by
  intro h; have := congrArg BitVec.toNat h; simp at this; omega

/-- What a byte reads as after two writes to different addresses. -/
theorem read8_write8_write8 (hm : Memory.wf s.mem = true) {a b : Word} (hab : a ≠ b) (v w : Byte) (x : Word) :
    ((s.write8 a v).write8 b w).read8 x =
      if x = a ∧ s.cfg.romBoundary ≤ a.toNat then v
      else if x = b ∧ s.cfg.romBoundary ≤ b.toNat then w else s.read8 x := by
  rw [read8_write8 _ (wf_write8 s hm a v), read8_write8 s hm]
  by_cases hb : x = b
  · subst hb; simp [hab.symm]
  · simp [hb]

/-- The bytes after a 16-bit store: low at the address, high at the next one (R73, R74). -/
theorem read8_write16 (hm : Memory.wf s.mem = true) (addr v x : Word) :
    (s.write16 addr v).read8 x =
      if x = addr ∧ s.cfg.romBoundary ≤ addr.toNat then loByte v
      else if x = addr + 1 ∧ s.cfg.romBoundary ≤ (addr + 1).toNat then hiByte v else s.read8 x :=
  read8_write8_write8 s hm (add_one_ne addr).symm _ _ x

theorem wf_write16 (hm : Memory.wf s.mem = true) (addr v : Word) : Memory.wf (s.write16 addr v).mem = true :=
  wf_write8 _ (wf_write8 s hm _ _) _ _

theorem sub_two_ne_sub_one (a : Word) : a - 1 ≠ a - 2 := by
  intro h; have := congrArg BitVec.toNat h; simp [BitVec.toNat_sub] at this; omega

/-- The bytes after a push: high at SP-1, low at SP-2 (R76). -/
theorem read8_push16 (hm : Memory.wf s.mem = true) (v x : Word) :
    (s.push16 v).read8 x =
      if x = s.sp - 1 ∧ s.cfg.romBoundary ≤ (s.sp - 1).toNat then hiByte v
      else if x = s.sp - 2 ∧ s.cfg.romBoundary ≤ (s.sp - 2).toNat then loByte v else s.read8 x :=
  read8_write8_write8 s hm (sub_two_ne_sub_one s.sp) _ _ x

theorem wf_push16 (hm : Memory.wf s.mem = true) (v : Word) : Memory.wf (s.push16 v).mem = true :=
  wf_write8 _ (wf_write8 s hm _ _) _ _

theorem wf_exchangeTop (hm : Memory.wf s.mem = true) (v : Word) : Memory.wf (s.exchangeTop v).mem = true :=
  wf_write8 _ (wf_write8 s hm _ _) _ _

/-- The bytes after the writes of EX (SP),rr (R220). -/
theorem read8_exchangeTop (hm : Memory.wf s.mem = true) (v x : Word) :
    (s.exchangeTop v).read8 x =
      if x = s.sp + 1 ∧ s.cfg.romBoundary ≤ (s.sp + 1).toNat then hiByte v
      else if x = s.sp ∧ s.cfg.romBoundary ≤ s.sp.toNat then loByte v else s.read8 x :=
  read8_write8_write8 s hm (add_one_ne s.sp) _ _ x

/-! ## The R credit -/

/-- `Wait(t)` adds ⌈t/4⌉ to R[6:0] modulo 128 (R42). -/
theorem wait_r_low (t : Nat) : (s.wait t).r.toNat % 128 = (s.r.toNat % 128 + (t + 3) / 4) % 128 := by
  have h1 : (s.r &&& 0x7F).toNat = s.r.toNat % 128 := by
    rw [BitVec.toNat_and]; exact Nat.and_two_pow_sub_one_eq_mod _ 7
  have h2 : ((s.r &&& 0x80 : Byte).toNat) % 128 = 0 := by
    generalize s.r = v; revert v; decide
  simp only [State.wait, h1, BitVec.toNat_or, BitVec.toNat_ofNat]
  generalize hx : (s.r.toNat % 128 + (t + 3) / 4) % 128 = x
  have hxlt : x < 128 := by omega
  have : (128 : Nat) = 2 ^ 7 := rfl
  rw [this, Nat.or_mod_two_pow, ← this, h2, Nat.zero_or]
  omega

/-- `Wait(t)` keeps R[7] (R40, R42). -/
theorem wait_r_7 (t : Nat) : (s.wait t).r[7] = s.r[7] := by
  have hxlt : (s.r.toNat % 128 + (t + 3) / 4) % 128 < 128 := Nat.mod_lt _ (by decide)
  have h1 : (s.r &&& 0x7F).toNat = s.r.toNat % 128 := by
    rw [BitVec.toNat_and]; exact Nat.and_two_pow_sub_one_eq_mod _ 7
  have h0 : (BitVec.ofNat 8 ((s.r.toNat % 128 + (t + 3) / 4) % 128))[7] = false := by
    rw [← BitVec.getLsbD_eq_getElem, BitVec.getLsbD_ofNat, Nat.testBit_lt_two_pow hxlt, Bool.and_false]
  simp only [State.wait, h1, BitVec.getElem_or, BitVec.getElem_and, h0]
  simp

@[simp] theorem cost_default (rule t : Nat) (second : Bool) (h : s.cfg.tstates = []) : s.cost rule second t = t := by
  simp [State.cost, h]

/-! ## Interrupts -/

/-- Everything taking an interrupt does but for memory and R (R502, R503, R506). -/
theorem takeInterrupt_eq (vector : State → Word) (iff2 : Bool) :
    s.takeInterrupt vector iff2 =
      { s with
        mem := (s.push16 s.pc).mem, sp := s.sp - 2, pc := vector (s.push16 s.pc), iff1 := false, iff2 := iff2
        halted := false, r := (s.wait 17).r } := by
  apply State.ext <;> simp [State.takeInterrupt, State.wait]

end Sys2Proof.Machine
end

