-- ==== Sys2Proof/Laws/Flags.lean ====
section
/-! SUPPORT. One lemma per function of Flags.lean that says its result and its flags in exact arithmetic. -/

namespace Sys2Proof.Machine

theorem getElem_7_eq (v : Byte) : v[7] = decide (128 ≤ v.toNat) := by revert v; decide

theorem getElem_15_eq (v : Word) : v[15] = decide (32768 ≤ v.toNat) := by
  have h := BitVec.msb_eq_decide v
  simpa [BitVec.msb_eq_getLsbD_last] using h

theorem toInt8 (v : Byte) : v.toInt = if 128 ≤ v.toNat then (v.toNat : Int) - 256 else v.toNat := by
  rw [BitVec.toInt_eq_toNat_cond]
  split <;> split <;> first | rfl | omega

theorem toInt16 (v : Word) : v.toInt = if 32768 ≤ v.toNat then (v.toNat : Int) - 65536 else v.toNat := by
  rw [BitVec.toInt_eq_toNat_cond]
  split <;> split <;> first | rfl | omega

theorem overflows8 (x : Int) : overflows 8 x = decide (x < -128 ∨ 128 ≤ x) := rfl
theorem overflows16 (x : Int) : overflows 16 x = decide (x < -32768 ∨ 32768 ≤ x) := rfl

theorem cin_le (c : Bool) : c.toNat ≤ 1 := by cases c <;> decide

theorem ofInt8_toNat (x : Int) : ((BitVec.ofInt 8 x).toNat : Int) = x % 256 := by
  rw [BitVec.toNat_ofInt]; omega

theorem ofInt16_toNat (x : Int) : ((BitVec.ofInt 16 x).toNat : Int) = x % 65536 := by
  rw [BitVec.toNat_ofInt]; omega

/-- Flags written with `keep = 0x28` (R150). -/
theorem flagsAre_all (f : Byte) (s z h pv n c : Bool) :
    FlagsAre f (mergeFlags f maskXY (newFlags s z h pv n c)) s z h pv n c := by
  simp [FlagsAre, maskXY]

/-- Flags written with `keep = 0x28 | C`. -/
theorem flagsAre_keepC (f : Byte) (s z h pv n : Bool) :
    FlagsAre f (mergeFlags f (maskXY ||| maskC) (newFlags s z h pv n false)) s z h pv n f[0] := by
  simp [FlagsAre, maskXY, maskC]

/-- Flags written with `keep = 0x28 | S | Z | PV`. -/
theorem flagsAre_keepSZPV (f : Byte) (h n c : Bool) :
    FlagsAre f (mergeFlags f (maskXY ||| maskS ||| maskZ ||| maskPV) (newFlags false false h false n c))
      f[7] f[6] h f[2] n c := by
  simp [FlagsAre, maskXY, maskS, maskZ, maskPV]

/-- `Add8` (R152). -/
theorem add8_spec (f a b : Byte) (cin : Bool) :
    (add8 f a b cin).1.toNat = (a.toNat + b.toNat + cin.toNat) % 256 ∧
    FlagsAre f (add8 f a b cin).2 (add8 f a b cin).1[7] ((add8 f a b cin).1 == 0)
      (decide (15 < a.toNat % 16 + b.toNat % 16 + cin.toNat))
      (overflows 8 (a.toInt + b.toInt + cin.toNat)) false (decide (255 < a.toNat + b.toNat + cin.toNat)) := by
  refine ⟨by simp [add8], ?_⟩
  have hpv : (a.getLsbD 7 == b.getLsbD 7 && (BitVec.ofNat 8 (a.toNat + b.toNat + cin.toNat)).getLsbD 7 != a.getLsbD 7)
      = overflows 8 (a.toInt + b.toInt + cin.toNat) := by
    have ha := a.isLt; have hb := b.isLt; have hc := cin_le cin
    rw [overflows8, toInt8, toInt8]
    simp only [BitVec.getLsbD_eq_getElem (by decide : 7 < 8), getElem_7_eq, BitVec.toNat_ofNat]
    rw [Bool.eq_iff_iff]
    by_cases h1 : 128 ≤ a.toNat <;> by_cases h2 : 128 ≤ b.toNat <;> simp [h1, h2] <;> omega
  rw [← hpv]
  exact flagsAre_all ..

/-- `Sub8` (R153). -/
theorem sub8_spec (f a b : Byte) (cin : Bool) :
    ((sub8 f a b cin).1.toNat : Int) = ((a.toNat : Int) - b.toNat - cin.toNat) % 256 ∧
    FlagsAre f (sub8 f a b cin).2 (sub8 f a b cin).1[7] ((sub8 f a b cin).1 == 0)
      (decide (a.toNat % 16 < b.toNat % 16 + cin.toNat))
      (overflows 8 (a.toInt - b.toInt - cin.toNat)) true (decide (a.toNat < b.toNat + cin.toNat)) := by
  refine ⟨ofInt8_toNat _, ?_⟩
  have hpv : (a.getLsbD 7 != b.getLsbD 7 &&
      (BitVec.ofInt 8 ((a.toNat : Int) - b.toNat - cin.toNat)).getLsbD 7 != a.getLsbD 7)
      = overflows 8 (a.toInt - b.toInt - cin.toNat) := by
    have ha := a.isLt; have hb := b.isLt; have hc := cin_le cin
    have hr := ofInt8_toNat ((a.toNat : Int) - b.toNat - cin.toNat)
    rw [overflows8, toInt8, toInt8]
    simp only [BitVec.getLsbD_eq_getElem (by decide : 7 < 8), getElem_7_eq]
    generalize (BitVec.ofInt 8 ((a.toNat : Int) - b.toNat - cin.toNat)).toNat = r at hr
    rw [Bool.eq_iff_iff]
    by_cases h1 : 128 ≤ a.toNat <;> by_cases h2 : 128 ≤ b.toNat <;> simp [h1, h2] <;> omega
  rw [← hpv]
  exact flagsAre_all ..

/-- `Adc16` (R160). -/
theorem adc16_spec (f : Byte) (a b : Word) (cin : Bool) :
    (adc16 f a b cin).1.toNat = (a.toNat + b.toNat + cin.toNat) % 65536 ∧
    FlagsAre f (adc16 f a b cin).2 (adc16 f a b cin).1[15] ((adc16 f a b cin).1 == 0)
      (decide (4095 < a.toNat % 4096 + b.toNat % 4096 + cin.toNat))
      (overflows 16 (a.toInt + b.toInt + cin.toNat)) false (decide (65535 < a.toNat + b.toNat + cin.toNat)) := by
  refine ⟨by simp [adc16], ?_⟩
  have hpv : (a.getLsbD 15 == b.getLsbD 15 &&
      (BitVec.ofNat 16 (a.toNat + b.toNat + cin.toNat)).getLsbD 15 != a.getLsbD 15)
      = overflows 16 (a.toInt + b.toInt + cin.toNat) := by
    have ha := a.isLt; have hb := b.isLt; have hc := cin_le cin
    rw [overflows16, toInt16, toInt16]
    simp only [BitVec.getLsbD_eq_getElem (by decide : 15 < 16), getElem_15_eq, BitVec.toNat_ofNat]
    rw [Bool.eq_iff_iff]
    by_cases h1 : 32768 ≤ a.toNat <;> by_cases h2 : 32768 ≤ b.toNat <;> simp [h1, h2] <;> omega
  rw [← hpv]
  exact flagsAre_all ..

/-- `Sbc16` (R161). -/
theorem sbc16_spec (f : Byte) (a b : Word) (cin : Bool) :
    ((sbc16 f a b cin).1.toNat : Int) = ((a.toNat : Int) - b.toNat - cin.toNat) % 65536 ∧
    FlagsAre f (sbc16 f a b cin).2 (sbc16 f a b cin).1[15] ((sbc16 f a b cin).1 == 0)
      (decide (a.toNat % 4096 < b.toNat % 4096 + cin.toNat))
      (overflows 16 (a.toInt - b.toInt - cin.toNat)) true (decide (a.toNat < b.toNat + cin.toNat)) := by
  refine ⟨ofInt16_toNat _, ?_⟩
  have hpv : (a.getLsbD 15 != b.getLsbD 15 &&
      (BitVec.ofInt 16 ((a.toNat : Int) - b.toNat - cin.toNat)).getLsbD 15 != a.getLsbD 15)
      = overflows 16 (a.toInt - b.toInt - cin.toNat) := by
    have ha := a.isLt; have hb := b.isLt; have hc := cin_le cin
    have hr := ofInt16_toNat ((a.toNat : Int) - b.toNat - cin.toNat)
    rw [overflows16, toInt16, toInt16]
    simp only [BitVec.getLsbD_eq_getElem (by decide : 15 < 16), getElem_15_eq]
    generalize (BitVec.ofInt 16 ((a.toNat : Int) - b.toNat - cin.toNat)).toNat = r at hr
    rw [Bool.eq_iff_iff]
    by_cases h1 : 32768 ≤ a.toNat <;> by_cases h2 : 32768 ≤ b.toNat <;> simp [h1, h2] <;> omega
  rw [← hpv]
  exact flagsAre_all ..

/-- `Add16` (R159). -/
theorem add16_spec (f : Byte) (a b : Word) :
    (add16 f a b).1.toNat = (a.toNat + b.toNat) % 65536 ∧ Add16Flags f (add16 f a b).2 a b :=
  ⟨by simp [add16], flagsAre_keepSZPV ..⟩

/-- The logical operations (R154, R155, R156). -/
theorem logicFlags_spec (f r : Byte) (h : Bool) : FlagsAre f (logicFlags f r h) r[7] (r == 0) h (parity r) false false :=
  flagsAre_all ..

theorem and_0F_eq (v k : Byte) : (v &&& 0x0F == k) = decide (v.toNat % 16 = k.toNat) := by
  have : (v &&& 0x0F).toNat = v.toNat % 16 := by rw [BitVec.toNat_and]; exact Nat.and_two_pow_sub_one_eq_mod _ 4
  rw [Bool.eq_iff_iff, beq_iff_eq, decide_eq_true_iff, ← this, BitVec.toNat_inj]

/-- `Inc8` (R157). -/
theorem inc8_spec (f v : Byte) : (inc8 f v).1 = v + 1 ∧ IncFlags f (inc8 f v).2 v (inc8 f v).1 := by
  refine ⟨rfl, ?_⟩
  have h1 := and_0F_eq v 0x0F
  have h2 : (v == 0x7F) = decide (v.toNat = 0x7F) := by
    rw [Bool.eq_iff_iff, beq_iff_eq, decide_eq_true_iff, ← BitVec.toNat_inj]; rfl
  simp only [IncFlags, inc8, h1, h2]
  exact flagsAre_keepC ..

/-- `Dec8` (R158). -/
theorem dec8_spec (f v : Byte) : (dec8 f v).1 = v - 1 ∧ DecFlags f (dec8 f v).2 v (dec8 f v).1 := by
  refine ⟨rfl, ?_⟩
  have h1 := and_0F_eq v 0x00
  have h2 : (v == 0x80) = decide (v.toNat = 0x80) := by
    rw [Bool.eq_iff_iff, beq_iff_eq, decide_eq_true_iff, ← BitVec.toNat_inj]; rfl
  simp only [DecFlags, dec8, h1, h2]
  exact flagsAre_keepC ..

theorem shiftLeftIn_spec (v : Byte) (c : Bool) : MovedLeft v (shiftLeftIn v c) c := by
  revert v c; unfold MovedLeft; decide

theorem shiftRightIn_spec (v : Byte) (c : Bool) : MovedRight v (shiftRightIn v c) c := by
  revert v c; unfold MovedRight; decide

/-- `Shift` (R163). -/
theorem shift8_spec (o : Rot) (f v : Byte) :
    ∃ out, Rotated o f v (shift8 o f v).1 out ∧ ShiftFlags f (shift8 o f v).2 (shift8 o f v).1 out := by
  refine ⟨(rotate o v (flagC f)).2, ?_, flagsAre_all ..⟩
  cases o <;> exact ⟨by first | exact shiftLeftIn_spec .. | exact shiftRightIn_spec .., rfl⟩

/-- `Bit` (R164), whatever the two free bits. -/
theorem bitTest_spec (f v : Byte) (b : Fin 8) (x y : Bool) :
    FlagsAre f (bitTest f v b x y) x (!v[b.val]) true y false f[0] := by
  have := flagsAre_keepC f x (!v.getLsbD b.val) true y false
  simpa [bitTest] using this

/-- `v | (1 << b)` (R368). -/
theorem setBit_spec (v : Byte) (b : Fin 8) : BitIs v (setBit v b) b true := by
  revert v b; unfold BitIs; decide

/-- `v & ~(1 << b)` (R370). -/
theorem resBit_spec (v : Byte) (b : Fin 8) : BitIs v (resBit v b) b false := by
  revert v b; unfold BitIs; decide

/-- The flags of a byte read (R380, R394-R397). -/
theorem byteFlags_spec (f v : Byte) (pv : Bool) : FlagsAre f (byteFlags f v pv) v[7] (v == 0) false pv false f[0] :=
  flagsAre_keepC ..

end Sys2Proof.Machine
end

