-- ==== Sys2Proof/Laws/Effects.lean ====
section
/-! SUPPORT. The credit, the stores and the register writes of the shared operations, in the vocabulary of Safety.lean. -/

namespace Sys2Proof.Machine

variable {s t : State}

/-- A `Wait` carries its credit, whatever else came before it left R alone (R42). -/
theorem credited_wait (h : t.r = s.r) (k : Nat) : Credited s (t.wait k) k := by
  have h7 := wait_r_7 t k
  have hl := wait_r_low t k
  rw [h] at h7 hl
  exact ⟨h7, hl⟩

theorem credited_spend (h : t.r = s.r) (hc : t.cfg = s.cfg) (rule k : Nat) :
    Credited s (t.spend rule k) (s.cost rule false k) := by
  have : t.cost rule false k = s.cost rule false k := by simp [State.cost, hc]
  rw [← this]; exact credited_wait h _

theorem credited_spendSecond (h : t.r = s.r) (hc : t.cfg = s.cfg) (rule k : Nat) :
    Credited s (t.spendSecond rule k) (s.cost rule true k) := by
  have : t.cost rule true k = s.cost rule true k := by simp [State.cost, hc]
  rw [← this]; exact credited_wait h _

/-- A byte store (R72), seen in any state with the memory the store left. -/
theorem storedByte_of_mem {addr : Word} {v : Byte} (hm : Memory.wf s.mem = true) (h : t.mem = (s.write8 addr v).mem) :
    StoredByte s t addr v := fun a => by
  rw [read8_congr h, read8_write8 s hm]

/-- A word store (R73). -/
theorem storedWord_of_mem {addr v : Word} (hm : Memory.wf s.mem = true) (h : t.mem = (s.write16 addr v).mem) :
    StoredWord s t addr v := fun a => by
  rw [read8_congr h, read8_write16 s hm]; rfl

/-- Two stores at different addresses in either order. -/
theorem stores_swap {x y : Word} (hxy : x ≠ y) (a : Word) (P Q : Prop) [Decidable P] [Decidable Q] (u v w : Byte) :
    (if a = x ∧ P then u else if a = y ∧ Q then v else w) = if a = y ∧ Q then v else if a = x ∧ P then u else w := by
  by_cases h : a = x
  · subst h; simp [hxy]
  · simp [h]

theorem sub_two_add_one (a : Word) : a - 2 + 1 = a - 1 := by
  apply BitVec.eq_of_toNat_eq; simp [BitVec.toNat_sub]; omega

/-- A push (R76) is a word store at the new SP. -/
theorem storedWord_of_push {v : Word} (hm : Memory.wf s.mem = true) (h : t.mem = (s.push16 v).mem) :
    StoredWord s t (s.sp - 2) v := fun a => by
  rw [read8_congr h, read8_push16 s hm, sub_two_add_one]
  exact stores_swap (sub_two_ne_sub_one s.sp) ..

/-- The writes of EX (SP),rr are a word store at SP (R220). -/
theorem storedWord_of_exchangeTop {v : Word} (hm : Memory.wf s.mem = true) (h : t.mem = (s.exchangeTop v).mem) :
    StoredWord s t s.sp v := fun a => by
  rw [read8_congr h, read8_exchangeTop s hm]
  exact stores_swap (add_one_ne s.sp) ..

/-- A register write (R32). -/
theorem onlyReg_setReg (q : Reg8) (v : Byte) : OnlyReg s (s.setReg q v) q v :=
  ⟨reg_setReg_same s q v, fun p hp => by simp [reg_setReg, hp]⟩

/-- `x[q]` depends only on the seven registers. -/
theorem reg_congr (ha : t.a = s.a) (hb : t.b = s.b) (hc : t.c = s.c) (hd : t.d = s.d) (he : t.e = s.e) (hh : t.h = s.h)
    (hl : t.l = s.l) (q : Reg8) : t.reg q = s.reg q := by
  cases q <;> assumption

theorem read16_toNat (addr : Word) : (s.read16 addr).toNat = 256 * (s.read8 (addr + 1)).toNat + (s.read8 addr).toNat :=
  mkWord_toNat ..

end Sys2Proof.Machine
end

