-- ==== Sys2Proof/Laws/PerInstr.lean ====
section
/-! SUPPORT. The family `EncodedLength`, one lemma per constructor of `Instr`: the encoding of an instruction has as many
bytes as the instruction is long, from one to four (R100). -/

namespace Sys2Proof.Laws.EncodedLength

/-- The encoding of an instruction is `length` bytes, from one to four (R100). -/
def Statement (i : Instr) : Prop := (encode i).length = i.length ∧ 1 ≤ i.length ∧ i.length ≤ 4

theorem of_ble {i : Instr} (h : (encode i).length = i.length) (h1 : Nat.ble 1 i.length = true)
    (h4 : Nat.ble i.length 4 = true) : Statement i :=
  ⟨h, Nat.le_of_ble_eq_true h1, Nat.le_of_ble_eq_true h4⟩

theorem ldRR (r : Reg8) (r' : Reg8) : Statement (.ldRR r r') := of_ble rfl rfl rfl
theorem ldRN (r : Reg8) (n : Byte) : Statement (.ldRN r n) := of_ble rfl rfl rfl
theorem ldRIndHl (r : Reg8) : Statement (.ldRIndHl r) := of_ble rfl rfl rfl
theorem ldIndHlR (r' : Reg8) : Statement (.ldIndHlR r') := of_ble rfl rfl rfl
theorem ldIndHlN (n : Byte) : Statement (.ldIndHlN n) := of_ble rfl rfl rfl
theorem ldAIndBc : Statement (.ldAIndBc) := of_ble rfl rfl rfl
theorem ldAIndDe : Statement (.ldAIndDe) := of_ble rfl rfl rfl
theorem ldAIndNn (nn : Word) : Statement (.ldAIndNn nn) := of_ble rfl rfl rfl
theorem ldIndBcA : Statement (.ldIndBcA) := of_ble rfl rfl rfl
theorem ldIndDeA : Statement (.ldIndDeA) := of_ble rfl rfl rfl
theorem ldIndNnA (nn : Word) : Statement (.ldIndNnA nn) := of_ble rfl rfl rfl
theorem ldDdNn (p : Pair) (nn : Word) : Statement (.ldDdNn p nn) := of_ble rfl rfl rfl
theorem ldHlIndNn (nn : Word) : Statement (.ldHlIndNn nn) := of_ble rfl rfl rfl
theorem ldIndNnHl (nn : Word) : Statement (.ldIndNnHl nn) := of_ble rfl rfl rfl
theorem ldSpHl : Statement (.ldSpHl) := of_ble rfl rfl rfl
theorem pushQq (q : StackPair) : Statement (.pushQq q) := of_ble rfl rfl rfl
theorem popQq (q : StackPair) : Statement (.popQq q) := of_ble rfl rfl rfl
theorem exDeHl : Statement (.exDeHl) := of_ble rfl rfl rfl
theorem exAfAf : Statement (.exAfAf) := of_ble rfl rfl rfl
theorem exx : Statement (.exx) := of_ble rfl rfl rfl
theorem exIndSpHl : Statement (.exIndSpHl) := of_ble rfl rfl rfl
theorem addAR (r : Reg8) : Statement (.addAR r) := of_ble rfl rfl rfl
theorem addAN (n : Byte) : Statement (.addAN n) := of_ble rfl rfl rfl
theorem addAIndHl : Statement (.addAIndHl) := of_ble rfl rfl rfl
theorem adcAR (r : Reg8) : Statement (.adcAR r) := of_ble rfl rfl rfl
theorem adcAN (n : Byte) : Statement (.adcAN n) := of_ble rfl rfl rfl
theorem adcAIndHl : Statement (.adcAIndHl) := of_ble rfl rfl rfl
theorem subR (r : Reg8) : Statement (.subR r) := of_ble rfl rfl rfl
theorem subN (n : Byte) : Statement (.subN n) := of_ble rfl rfl rfl
theorem subIndHl : Statement (.subIndHl) := of_ble rfl rfl rfl
theorem sbcAR (r : Reg8) : Statement (.sbcAR r) := of_ble rfl rfl rfl
theorem sbcAN (n : Byte) : Statement (.sbcAN n) := of_ble rfl rfl rfl
theorem sbcAIndHl : Statement (.sbcAIndHl) := of_ble rfl rfl rfl
theorem andR (r : Reg8) : Statement (.andR r) := of_ble rfl rfl rfl
theorem andN (n : Byte) : Statement (.andN n) := of_ble rfl rfl rfl
theorem andIndHl : Statement (.andIndHl) := of_ble rfl rfl rfl
theorem xorR (r : Reg8) : Statement (.xorR r) := of_ble rfl rfl rfl
theorem xorN (n : Byte) : Statement (.xorN n) := of_ble rfl rfl rfl
theorem xorIndHl : Statement (.xorIndHl) := of_ble rfl rfl rfl
theorem orR (r : Reg8) : Statement (.orR r) := of_ble rfl rfl rfl
theorem orN (n : Byte) : Statement (.orN n) := of_ble rfl rfl rfl
theorem orIndHl : Statement (.orIndHl) := of_ble rfl rfl rfl
theorem cpR (r : Reg8) : Statement (.cpR r) := of_ble rfl rfl rfl
theorem cpN (n : Byte) : Statement (.cpN n) := of_ble rfl rfl rfl
theorem cpIndHl : Statement (.cpIndHl) := of_ble rfl rfl rfl
theorem incR (r : Reg8) : Statement (.incR r) := of_ble rfl rfl rfl
theorem incIndHl : Statement (.incIndHl) := of_ble rfl rfl rfl
theorem decR (r : Reg8) : Statement (.decR r) := of_ble rfl rfl rfl
theorem decIndHl : Statement (.decIndHl) := of_ble rfl rfl rfl
theorem daa : Statement (.daa) := of_ble rfl rfl rfl
theorem cpl : Statement (.cpl) := of_ble rfl rfl rfl
theorem scf : Statement (.scf) := of_ble rfl rfl rfl
theorem ccf : Statement (.ccf) := of_ble rfl rfl rfl
theorem addHlSs (p : Pair) : Statement (.addHlSs p) := of_ble rfl rfl rfl
theorem incSs (p : Pair) : Statement (.incSs p) := of_ble rfl rfl rfl
theorem decSs (p : Pair) : Statement (.decSs p) := of_ble rfl rfl rfl
theorem rlca : Statement (.rlca) := of_ble rfl rfl rfl
theorem rla : Statement (.rla) := of_ble rfl rfl rfl
theorem rrca : Statement (.rrca) := of_ble rfl rfl rfl
theorem rra : Statement (.rra) := of_ble rfl rfl rfl
theorem jpNn (nn : Word) : Statement (.jpNn nn) := of_ble rfl rfl rfl
theorem jpCNn (cc : Cond) (nn : Word) : Statement (.jpCNn cc nn) := of_ble rfl rfl rfl
theorem jrE (e : Byte) : Statement (.jrE e) := of_ble rfl rfl rfl
theorem jrCE (cc : JrCond) (e : Byte) : Statement (.jrCE cc e) := of_ble rfl rfl rfl
theorem jpIndHl : Statement (.jpIndHl) := of_ble rfl rfl rfl
theorem djnzE (e : Byte) : Statement (.djnzE e) := of_ble rfl rfl rfl
theorem callNn (nn : Word) : Statement (.callNn nn) := of_ble rfl rfl rfl
theorem callCNn (cc : Cond) (nn : Word) : Statement (.callCNn cc nn) := of_ble rfl rfl rfl
theorem ret : Statement (.ret) := of_ble rfl rfl rfl
theorem retC (cc : Cond) : Statement (.retC cc) := of_ble rfl rfl rfl
theorem rstP (t : Fin 8) : Statement (.rstP t) := of_ble rfl rfl rfl
theorem nop : Statement (.nop) := of_ble rfl rfl rfl
theorem halt : Statement (.halt) := of_ble rfl rfl rfl
theorem di : Statement (.di) := of_ble rfl rfl rfl
theorem ei : Statement (.ei) := of_ble rfl rfl rfl
theorem inAIndN (n : Byte) : Statement (.inAIndN n) := of_ble rfl rfl rfl
theorem outIndNA (n : Byte) : Statement (.outIndNA n) := of_ble rfl rfl rfl
theorem rlcR (r : Reg8) : Statement (.rlcR r) := of_ble rfl rfl rfl
theorem rlcIndHl : Statement (.rlcIndHl) := of_ble rfl rfl rfl
theorem rrcR (r : Reg8) : Statement (.rrcR r) := of_ble rfl rfl rfl
theorem rrcIndHl : Statement (.rrcIndHl) := of_ble rfl rfl rfl
theorem rlR (r : Reg8) : Statement (.rlR r) := of_ble rfl rfl rfl
theorem rlIndHl : Statement (.rlIndHl) := of_ble rfl rfl rfl
theorem rrR (r : Reg8) : Statement (.rrR r) := of_ble rfl rfl rfl
theorem rrIndHl : Statement (.rrIndHl) := of_ble rfl rfl rfl
theorem slaR (r : Reg8) : Statement (.slaR r) := of_ble rfl rfl rfl
theorem slaIndHl : Statement (.slaIndHl) := of_ble rfl rfl rfl
theorem sraR (r : Reg8) : Statement (.sraR r) := of_ble rfl rfl rfl
theorem sraIndHl : Statement (.sraIndHl) := of_ble rfl rfl rfl
theorem sllR (r : Reg8) : Statement (.sllR r) := of_ble rfl rfl rfl
theorem sllIndHl : Statement (.sllIndHl) := of_ble rfl rfl rfl
theorem srlR (r : Reg8) : Statement (.srlR r) := of_ble rfl rfl rfl
theorem srlIndHl : Statement (.srlIndHl) := of_ble rfl rfl rfl
theorem bitBR (b : Fin 8) (r : Reg8) : Statement (.bitBR b r) := of_ble rfl rfl rfl
theorem bitBIndHl (b : Fin 8) : Statement (.bitBIndHl b) := of_ble rfl rfl rfl
theorem setBR (b : Fin 8) (r : Reg8) : Statement (.setBR b r) := of_ble rfl rfl rfl
theorem setBIndHl (b : Fin 8) : Statement (.setBIndHl b) := of_ble rfl rfl rfl
theorem resBR (b : Fin 8) (r : Reg8) : Statement (.resBR b r) := of_ble rfl rfl rfl
theorem resBIndHl (b : Fin 8) : Statement (.resBIndHl b) := of_ble rfl rfl rfl
theorem inRIndC (r : Reg8) : Statement (.inRIndC r) := of_ble rfl rfl rfl
theorem outIndCR (r : Reg8) : Statement (.outIndCR r) := of_ble rfl rfl rfl
theorem sbcHlSs (p : Pair) : Statement (.sbcHlSs p) := of_ble rfl rfl rfl
theorem adcHlSs (p : Pair) : Statement (.adcHlSs p) := of_ble rfl rfl rfl
theorem ldIndNnDd (p : Pair) (nn : Word) : Statement (.ldIndNnDd p nn) := of_ble rfl rfl rfl
theorem ldDdIndNn (p : Pair) (nn : Word) : Statement (.ldDdIndNn p nn) := of_ble rfl rfl rfl
theorem neg : Statement (.neg) := of_ble rfl rfl rfl
theorem retn : Statement (.retn) := of_ble rfl rfl rfl
theorem reti : Statement (.reti) := of_ble rfl rfl rfl
theorem im0 : Statement (.im0) := of_ble rfl rfl rfl
theorem im1 : Statement (.im1) := of_ble rfl rfl rfl
theorem im2 : Statement (.im2) := of_ble rfl rfl rfl
theorem ldIA : Statement (.ldIA) := of_ble rfl rfl rfl
theorem ldRA : Statement (.ldRA) := of_ble rfl rfl rfl
theorem ldAI : Statement (.ldAI) := of_ble rfl rfl rfl
theorem ldAR : Statement (.ldAR) := of_ble rfl rfl rfl
theorem rrd : Statement (.rrd) := of_ble rfl rfl rfl
theorem rld : Statement (.rld) := of_ble rfl rfl rfl
theorem ldi : Statement (.ldi) := of_ble rfl rfl rfl
theorem ldir : Statement (.ldir) := of_ble rfl rfl rfl
theorem ldd : Statement (.ldd) := of_ble rfl rfl rfl
theorem lddr : Statement (.lddr) := of_ble rfl rfl rfl
theorem cpi : Statement (.cpi) := of_ble rfl rfl rfl
theorem cpir : Statement (.cpir) := of_ble rfl rfl rfl
theorem cpd : Statement (.cpd) := of_ble rfl rfl rfl
theorem cpdr : Statement (.cpdr) := of_ble rfl rfl rfl
theorem ini : Statement (.ini) := of_ble rfl rfl rfl
theorem inir : Statement (.inir) := of_ble rfl rfl rfl
theorem ind : Statement (.ind) := of_ble rfl rfl rfl
theorem indr : Statement (.indr) := of_ble rfl rfl rfl
theorem outi : Statement (.outi) := of_ble rfl rfl rfl
theorem otir : Statement (.otir) := of_ble rfl rfl rfl
theorem outd : Statement (.outd) := of_ble rfl rfl rfl
theorem otdr : Statement (.otdr) := of_ble rfl rfl rfl
theorem unrecEd (op : Byte) : Statement (.unrecEd op) := of_ble rfl rfl rfl
theorem ldIxNn (nn : Word) : Statement (.ldIxNn nn) := of_ble rfl rfl rfl
theorem ldIxIndNn (nn : Word) : Statement (.ldIxIndNn nn) := of_ble rfl rfl rfl
theorem ldIndNnIx (nn : Word) : Statement (.ldIndNnIx nn) := of_ble rfl rfl rfl
theorem ldSpIx : Statement (.ldSpIx) := of_ble rfl rfl rfl
theorem pushIx : Statement (.pushIx) := of_ble rfl rfl rfl
theorem popIx : Statement (.popIx) := of_ble rfl rfl rfl
theorem exIndSpIx : Statement (.exIndSpIx) := of_ble rfl rfl rfl
theorem addIxPp (pp : IndexPair) : Statement (.addIxPp pp) := of_ble rfl rfl rfl
theorem incIx : Statement (.incIx) := of_ble rfl rfl rfl
theorem decIx : Statement (.decIx) := of_ble rfl rfl rfl
theorem jpIndIx : Statement (.jpIndIx) := of_ble rfl rfl rfl
theorem ldRIndIxD (r : Reg8) (d : Byte) : Statement (.ldRIndIxD r d) := of_ble rfl rfl rfl
theorem ldIndIxDR (d : Byte) (r' : Reg8) : Statement (.ldIndIxDR d r') := of_ble rfl rfl rfl
theorem ldIndIxDN (d : Byte) (n : Byte) : Statement (.ldIndIxDN d n) := of_ble rfl rfl rfl
theorem addAIndIxD (d : Byte) : Statement (.addAIndIxD d) := of_ble rfl rfl rfl
theorem adcAIndIxD (d : Byte) : Statement (.adcAIndIxD d) := of_ble rfl rfl rfl
theorem subIndIxD (d : Byte) : Statement (.subIndIxD d) := of_ble rfl rfl rfl
theorem sbcAIndIxD (d : Byte) : Statement (.sbcAIndIxD d) := of_ble rfl rfl rfl
theorem andIndIxD (d : Byte) : Statement (.andIndIxD d) := of_ble rfl rfl rfl
theorem xorIndIxD (d : Byte) : Statement (.xorIndIxD d) := of_ble rfl rfl rfl
theorem orIndIxD (d : Byte) : Statement (.orIndIxD d) := of_ble rfl rfl rfl
theorem cpIndIxD (d : Byte) : Statement (.cpIndIxD d) := of_ble rfl rfl rfl
theorem incIndIxD (d : Byte) : Statement (.incIndIxD d) := of_ble rfl rfl rfl
theorem decIndIxD (d : Byte) : Statement (.decIndIxD d) := of_ble rfl rfl rfl
theorem rlcIndIxD (d : Byte) : Statement (.rlcIndIxD d) := of_ble rfl rfl rfl
theorem rrcIndIxD (d : Byte) : Statement (.rrcIndIxD d) := of_ble rfl rfl rfl
theorem rlIndIxD (d : Byte) : Statement (.rlIndIxD d) := of_ble rfl rfl rfl
theorem rrIndIxD (d : Byte) : Statement (.rrIndIxD d) := of_ble rfl rfl rfl
theorem slaIndIxD (d : Byte) : Statement (.slaIndIxD d) := of_ble rfl rfl rfl
theorem sraIndIxD (d : Byte) : Statement (.sraIndIxD d) := of_ble rfl rfl rfl
theorem sllIndIxD (d : Byte) : Statement (.sllIndIxD d) := of_ble rfl rfl rfl
theorem srlIndIxD (d : Byte) : Statement (.srlIndIxD d) := of_ble rfl rfl rfl
theorem rotIndIxDR (o : Rot) (d : Byte) (r : Reg8) : Statement (.rotIndIxDR o d r) := of_ble rfl rfl rfl
theorem bitBIndIxD (b : Fin 8) (d : Byte) (reg : BitVec 3) : Statement (.bitBIndIxD b d reg) := of_ble rfl rfl rfl
theorem resBIndIxD (b : Fin 8) (d : Byte) : Statement (.resBIndIxD b d) := of_ble rfl rfl rfl
theorem setBIndIxD (b : Fin 8) (d : Byte) : Statement (.setBIndIxD b d) := of_ble rfl rfl rfl
theorem resBIndIxDR (b : Fin 8) (d : Byte) (r : Reg8) : Statement (.resBIndIxDR b d r) := of_ble rfl rfl rfl
theorem setBIndIxDR (b : Fin 8) (d : Byte) (r : Reg8) : Statement (.setBIndIxDR b d r) := of_ble rfl rfl rfl
theorem ddOther (op : Byte) : Statement (.ddOther op) := of_ble rfl rfl rfl
theorem unrecDd (op : Byte) : Statement (.unrecDd op) := of_ble rfl rfl rfl
theorem ldIyNn (nn : Word) : Statement (.ldIyNn nn) := of_ble rfl rfl rfl
theorem ldIyIndNn (nn : Word) : Statement (.ldIyIndNn nn) := of_ble rfl rfl rfl
theorem ldIndNnIy (nn : Word) : Statement (.ldIndNnIy nn) := of_ble rfl rfl rfl
theorem ldSpIy : Statement (.ldSpIy) := of_ble rfl rfl rfl
theorem pushIy : Statement (.pushIy) := of_ble rfl rfl rfl
theorem popIy : Statement (.popIy) := of_ble rfl rfl rfl
theorem exIndSpIy : Statement (.exIndSpIy) := of_ble rfl rfl rfl
theorem addIyPp (pp : IndexPair) : Statement (.addIyPp pp) := of_ble rfl rfl rfl
theorem incIy : Statement (.incIy) := of_ble rfl rfl rfl
theorem decIy : Statement (.decIy) := of_ble rfl rfl rfl
theorem jpIndIy : Statement (.jpIndIy) := of_ble rfl rfl rfl
theorem ldRIndIyD (r : Reg8) (d : Byte) : Statement (.ldRIndIyD r d) := of_ble rfl rfl rfl
theorem ldIndIyDR (d : Byte) (r' : Reg8) : Statement (.ldIndIyDR d r') := of_ble rfl rfl rfl
theorem ldIndIyDN (d : Byte) (n : Byte) : Statement (.ldIndIyDN d n) := of_ble rfl rfl rfl
theorem addAIndIyD (d : Byte) : Statement (.addAIndIyD d) := of_ble rfl rfl rfl
theorem adcAIndIyD (d : Byte) : Statement (.adcAIndIyD d) := of_ble rfl rfl rfl
theorem subIndIyD (d : Byte) : Statement (.subIndIyD d) := of_ble rfl rfl rfl
theorem sbcAIndIyD (d : Byte) : Statement (.sbcAIndIyD d) := of_ble rfl rfl rfl
theorem andIndIyD (d : Byte) : Statement (.andIndIyD d) := of_ble rfl rfl rfl
theorem xorIndIyD (d : Byte) : Statement (.xorIndIyD d) := of_ble rfl rfl rfl
theorem orIndIyD (d : Byte) : Statement (.orIndIyD d) := of_ble rfl rfl rfl
theorem cpIndIyD (d : Byte) : Statement (.cpIndIyD d) := of_ble rfl rfl rfl
theorem incIndIyD (d : Byte) : Statement (.incIndIyD d) := of_ble rfl rfl rfl
theorem decIndIyD (d : Byte) : Statement (.decIndIyD d) := of_ble rfl rfl rfl
theorem rlcIndIyD (d : Byte) : Statement (.rlcIndIyD d) := of_ble rfl rfl rfl
theorem rrcIndIyD (d : Byte) : Statement (.rrcIndIyD d) := of_ble rfl rfl rfl
theorem rlIndIyD (d : Byte) : Statement (.rlIndIyD d) := of_ble rfl rfl rfl
theorem rrIndIyD (d : Byte) : Statement (.rrIndIyD d) := of_ble rfl rfl rfl
theorem slaIndIyD (d : Byte) : Statement (.slaIndIyD d) := of_ble rfl rfl rfl
theorem sraIndIyD (d : Byte) : Statement (.sraIndIyD d) := of_ble rfl rfl rfl
theorem sllIndIyD (d : Byte) : Statement (.sllIndIyD d) := of_ble rfl rfl rfl
theorem srlIndIyD (d : Byte) : Statement (.srlIndIyD d) := of_ble rfl rfl rfl
theorem rotIndIyDR (o : Rot) (d : Byte) (r : Reg8) : Statement (.rotIndIyDR o d r) := of_ble rfl rfl rfl
theorem bitBIndIyD (b : Fin 8) (d : Byte) (reg : BitVec 3) : Statement (.bitBIndIyD b d reg) := of_ble rfl rfl rfl
theorem resBIndIyD (b : Fin 8) (d : Byte) : Statement (.resBIndIyD b d) := of_ble rfl rfl rfl
theorem setBIndIyD (b : Fin 8) (d : Byte) : Statement (.setBIndIyD b d) := of_ble rfl rfl rfl
theorem resBIndIyDR (b : Fin 8) (d : Byte) (r : Reg8) : Statement (.resBIndIyDR b d r) := of_ble rfl rfl rfl
theorem setBIndIyDR (b : Fin 8) (d : Byte) (r : Reg8) : Statement (.setBIndIyDR b d r) := of_ble rfl rfl rfl
theorem fdOther (op : Byte) : Statement (.fdOther op) := of_ble rfl rfl rfl
theorem unrecFd (op : Byte) : Statement (.unrecFd op) := of_ble rfl rfl rfl

end Sys2Proof.Laws.EncodedLength
end

