-- ==== Sys2Proof/Laws/Step.lean ====
section
/-! SUPPORT. What a step can do, said once: its four cases, and what taking an interrupt stores and credits. -/

namespace Sys2Proof.Machine

variable {s t : State}

/-- A scheduled sample is the one taken (R501). -/
theorem sample_of_lines {n : Lines} {rest : List Lines} (h : s.lines = n :: rest) : s.sample = n := by
  simp [State.sample, h]

theorem step_nmi (h : s.sample.nmi = true) : step s = .next s.polled.serviceNmi := by simp [step, cycle, h]

theorem step_int (hn : s.sample.nmi = false) (hi : s.acceptsInt = true) :
    step s = .next (s.polled.serviceInt s.sample.data) := by simp [step, cycle, hn, hi]

theorem step_halted (hn : s.sample.nmi = false) (hi : s.acceptsInt = false) (hh : s.halted = true) :
    step s = .next s.polled := by simp [step, cycle, hn, hi, hh]

theorem step_running (hn : s.sample.nmi = false) (hi : s.acceptsInt = false) (hh : s.halted = false) :
    step s = exec s.polled.fetched (s.polled.past s.polled.fetched) := by simp [step, cycle, hn, hi, hh]

/-- The four cases of a step, in the order of R500. -/
theorem step_cases (h : step s = .next t) :
    (s.sample.nmi = true ∧ t = s.polled.serviceNmi) ∨
    (s.sample.nmi = false ∧ s.acceptsInt = true ∧ t = s.polled.serviceInt s.sample.data) ∨
    (s.sample.nmi = false ∧ s.acceptsInt = false ∧ s.halted = true ∧ t = s.polled) ∨
    (s.sample.nmi = false ∧ s.acceptsInt = false ∧ s.halted = false ∧
      exec s.polled.fetched (s.polled.past s.polled.fetched) = .next t) := by
  cases hn : s.sample.nmi with
  | true => rw [step_nmi hn] at h; exact .inl ⟨rfl, (Host.Outcome.next.inj h).symm⟩
  | false =>
    cases hi : s.acceptsInt with
    | true => rw [step_int hn hi] at h; exact .inr (.inl ⟨rfl, rfl, (Host.Outcome.next.inj h).symm⟩)
    | false =>
      cases hh : s.halted with
      | true => rw [step_halted hn hi hh] at h; exact .inr (.inr (.inl ⟨rfl, rfl, rfl, (Host.Outcome.next.inj h).symm⟩))
      | false => rw [step_running hn hi hh] at h; exact .inr (.inr (.inr ⟨rfl, rfl, rfl, h⟩))

theorem acceptsInt_iff : s.acceptsInt = true ↔
    s.sample.mi = true ∧ s.iff1 = true ∧ ¬ (s.cfg.eiDelay = true ∧ s.eiPending = true) := by
  unfold State.acceptsInt State.blocked
  cases s.sample.mi <;> cases s.iff1 <;> cases s.cfg.eiDelay <;> cases s.eiPending <;> simp

theorem storedWord_takeInterrupt (hm : Memory.wf s.mem = true) (vector : State → Word) (iff2 : Bool) :
    StoredWord s (s.takeInterrupt vector iff2) (s.sp - 2) s.pc :=
  storedWord_of_push hm (by rw [takeInterrupt_eq])

theorem credited_takeInterrupt (vector : State → Word) (iff2 : Bool) : Credited s (s.takeInterrupt vector iff2) 17 := by
  have h : (s.takeInterrupt vector iff2).r = (s.wait 17).r := by rw [takeInterrupt_eq]
  unfold Credited
  rw [h]
  exact credited_wait rfl 17

end Sys2Proof.Machine
end

