-- ==== Sys2Proof/Tests/Slice0.lean ====
section
/-! SUPPORT. The model's own tests: the checks of well-formedness, one encoding of every constructor written out bit by bit
from the encoding column of spec/opcode_table.json, one step of vectors of 95_test_vectors.md (expected values from that
file), and for every statement with hypotheses a state and operands that meet them all. -/

namespace Sys2Proof.Tests

open Sys2Proof Sys2Proof.Machine

/-! ## Well-formedness: each check refuses an ill-formed term and takes a well-formed one -/

/-- ED 44 is NEG, so not unrecognised (R116). -/
theorem test_wf_unrecEd : (Instr.unrecEd 0x44).wf = false ∧ (Instr.unrecEd 0x70).wf = true := by decide

/-- DD CB, DD 09 and DD 26 are not in OTHER_SET (R117). -/
theorem test_wf_ddOther :
    (Instr.ddOther 0xCB).wf = false ∧ (Instr.ddOther 0x09).wf = false ∧ (Instr.ddOther 0x26).wf = false ∧
    (Instr.ddOther 0x3E).wf = true := by decide

/-- DD 3E is in OTHER_SET, not in the UNRECOGNISED class (R117). -/
theorem test_wf_unrecDd : (Instr.unrecDd 0x3E).wf = false ∧ (Instr.unrecDd 0xDD).wf = true := by decide

/-- FD CB, FD E9 and FD FD are not in OTHER_SET (R117). -/
theorem test_wf_fdOther :
    (Instr.fdOther 0xCB).wf = false ∧ (Instr.fdOther 0xE9).wf = false ∧ (Instr.fdOther 0xFD).wf = false ∧
    (Instr.fdOther 0x00).wf = true := by decide

/-- FD 7E is LD A,(IY+d), not in the UNRECOGNISED class (R117). -/
theorem test_wf_unrecFd : (Instr.unrecFd 0x7E).wf = false ∧ (Instr.unrecFd 0xEB).wf = true := by decide

/-! ## Decoding: one encoding of every constructor -/

/-- The bytes decode to exactly this instruction, with nothing left over. -/
def reads (bs : List Byte) (i : Instr) : Bool :=
  match decode bs with
  | .ok (j, []) => j == i
  | _ => false

theorem test_decode_root_1 :
    reads [0b01101011] (.ldRR .l .e) = true ∧
    reads [0b00111110, 0b00110100] (.ldRN .a 0x34) = true ∧
    reads [0b01000110] (.ldRIndHl .b) = true ∧
    reads [0b01110000] (.ldIndHlR .b) = true ∧
    reads [0b00110110, 0b00110100] (.ldIndHlN 0x34) = true ∧
    reads [0b00001010] .ldAIndBc = true ∧
    reads [0b00011010] .ldAIndDe = true ∧
    reads [0b00111010, 0b00110100, 0b00010010] (.ldAIndNn 0x1234) = true ∧
    reads [0b00000010] .ldIndBcA = true ∧
    reads [0b00010010] .ldIndDeA = true ∧
    reads [0b00110010, 0b00110100, 0b00010010] (.ldIndNnA 0x1234) = true ∧
    reads [0b00000001, 0b00110100, 0b00010010] (.ldDdNn .bc 0x1234) = true ∧
    reads [0b00101010, 0b00110100, 0b00010010] (.ldHlIndNn 0x1234) = true ∧
    reads [0b00100010, 0b00110100, 0b00010010] (.ldIndNnHl 0x1234) = true ∧
    reads [0b11111001] .ldSpHl = true := by decide

theorem test_decode_root_2 :
    reads [0b11000101] (.pushQq .bc) = true ∧
    reads [0b11110001] (.popQq .af) = true ∧
    reads [0b11101011] .exDeHl = true ∧
    reads [0b00001000] .exAfAf = true ∧
    reads [0b11011001] .exx = true ∧
    reads [0b11100011] .exIndSpHl = true ∧
    reads [0b10000011] (.addAR .e) = true ∧
    reads [0b11000110, 0b00110100] (.addAN 0x34) = true ∧
    reads [0b10000110] .addAIndHl = true ∧
    reads [0b10001000] (.adcAR .b) = true ∧
    reads [0b11001110, 0b00110100] (.adcAN 0x34) = true ∧
    reads [0b10001110] .adcAIndHl = true ∧
    reads [0b10010101] (.subR .l) = true ∧
    reads [0b11010110, 0b00110100] (.subN 0x34) = true ∧
    reads [0b10010110] .subIndHl = true := by decide

theorem test_decode_root_3 :
    reads [0b10011111] (.sbcAR .a) = true ∧
    reads [0b11011110, 0b00110100] (.sbcAN 0x34) = true ∧
    reads [0b10011110] .sbcAIndHl = true ∧
    reads [0b10100010] (.andR .d) = true ∧
    reads [0b11100110, 0b00110100] (.andN 0x34) = true ∧
    reads [0b10100110] .andIndHl = true ∧
    reads [0b10101001] (.xorR .c) = true ∧
    reads [0b11101110, 0b00110100] (.xorN 0x34) = true ∧
    reads [0b10101110] .xorIndHl = true ∧
    reads [0b10110100] (.orR .h) = true ∧
    reads [0b11110110, 0b00110100] (.orN 0x34) = true ∧
    reads [0b10110110] .orIndHl = true ∧
    reads [0b10111011] (.cpR .e) = true ∧
    reads [0b11111110, 0b00110100] (.cpN 0x34) = true ∧
    reads [0b10111110] .cpIndHl = true := by decide

theorem test_decode_root_4 :
    reads [0b00010100] (.incR .d) = true ∧
    reads [0b00110100] .incIndHl = true ∧
    reads [0b00001101] (.decR .c) = true ∧
    reads [0b00110101] .decIndHl = true ∧
    reads [0b00100111] .daa = true ∧
    reads [0b00101111] .cpl = true ∧
    reads [0b00110111] .scf = true ∧
    reads [0b00111111] .ccf = true ∧
    reads [0b00111001] (.addHlSs .sp) = true ∧
    reads [0b00010011] (.incSs .de) = true ∧
    reads [0b00001011] (.decSs .bc) = true ∧
    reads [0b00000111] .rlca = true ∧
    reads [0b00010111] .rla = true ∧
    reads [0b00001111] .rrca = true ∧
    reads [0b00011111] .rra = true := by decide

theorem test_decode_root_5 :
    reads [0b11000011, 0b00110100, 0b00010010] (.jpNn 0x1234) = true ∧
    reads [0b11110010, 0b00110100, 0b00010010] (.jpCNn .p 0x1234) = true ∧
    reads [0b00011000, 0b11111100] (.jrE 0xFC) = true ∧
    reads [0b00100000, 0b11111100] (.jrCE .nz 0xFC) = true ∧
    reads [0b11101001] .jpIndHl = true ∧
    reads [0b00010000, 0b11111100] (.djnzE 0xFC) = true ∧
    reads [0b11001101, 0b00110100, 0b00010010] (.callNn 0x1234) = true ∧
    reads [0b11011100, 0b00110100, 0b00010010] (.callCNn .c 0x1234) = true ∧
    reads [0b11001001] .ret = true ∧
    reads [0b11110000] (.retC .p) = true ∧
    reads [0b11101111] (.rstP 5) = true ∧
    reads [0b00000000] .nop = true ∧
    reads [0b01110110] .halt = true ∧
    reads [0b11110011] .di = true ∧
    reads [0b11111011] .ei = true := by decide

theorem test_decode_root_6 :
    reads [0b11011011, 0b00110100] (.inAIndN 0x34) = true ∧
    reads [0b11010011, 0b00110100] (.outIndNA 0x34) = true := by decide

theorem test_decode_cb_1 :
    reads [0b11001011, 0b00000011] (.rlcR .e) = true ∧
    reads [0b11001011, 0b00000110] .rlcIndHl = true ∧
    reads [0b11001011, 0b00001111] (.rrcR .a) = true ∧
    reads [0b11001011, 0b00001110] .rrcIndHl = true ∧
    reads [0b11001011, 0b00010100] (.rlR .h) = true ∧
    reads [0b11001011, 0b00010110] .rlIndHl = true ∧
    reads [0b11001011, 0b00011101] (.rrR .l) = true ∧
    reads [0b11001011, 0b00011110] .rrIndHl = true ∧
    reads [0b11001011, 0b00100001] (.slaR .c) = true ∧
    reads [0b11001011, 0b00100110] .slaIndHl = true ∧
    reads [0b11001011, 0b00101000] (.sraR .b) = true ∧
    reads [0b11001011, 0b00101110] .sraIndHl = true ∧
    reads [0b11001011, 0b00110010] (.sllR .d) = true ∧
    reads [0b11001011, 0b00110110] .sllIndHl = true ∧
    reads [0b11001011, 0b00111011] (.srlR .e) = true := by decide

theorem test_decode_cb_2 :
    reads [0b11001011, 0b00111110] .srlIndHl = true ∧
    reads [0b11001011, 0b01010111] (.bitBR 2 .a) = true ∧
    reads [0b11001011, 0b01101110] (.bitBIndHl 5) = true ∧
    reads [0b11001011, 0b11110100] (.setBR 6 .h) = true ∧
    reads [0b11001011, 0b11001110] (.setBIndHl 1) = true ∧
    reads [0b11001011, 0b10111101] (.resBR 7 .l) = true ∧
    reads [0b11001011, 0b10010110] (.resBIndHl 2) = true := by decide

theorem test_decode_ed_1 :
    reads [0b11101101, 0b01111000] (.inRIndC .a) = true ∧
    reads [0b11101101, 0b01000001] (.outIndCR .b) = true ∧
    reads [0b11101101, 0b01110010] (.sbcHlSs .sp) = true ∧
    reads [0b11101101, 0b01011010] (.adcHlSs .de) = true ∧
    reads [0b11101101, 0b01000011, 0b00110100, 0b00010010] (.ldIndNnDd .bc 0x1234) = true ∧
    reads [0b11101101, 0b01101011, 0b00110100, 0b00010010] (.ldDdIndNn .hl 0x1234) = true ∧
    reads [0b11101101, 0b01000100] .neg = true ∧
    reads [0b11101101, 0b01000101] .retn = true ∧
    reads [0b11101101, 0b01001101] .reti = true ∧
    reads [0b11101101, 0b01000110] .im0 = true ∧
    reads [0b11101101, 0b01010110] .im1 = true ∧
    reads [0b11101101, 0b01011110] .im2 = true ∧
    reads [0b11101101, 0b01000111] .ldIA = true ∧
    reads [0b11101101, 0b01001111] .ldRA = true ∧
    reads [0b11101101, 0b01010111] .ldAI = true := by decide

theorem test_decode_ed_2 :
    reads [0b11101101, 0b01011111] .ldAR = true ∧
    reads [0b11101101, 0b01100111] .rrd = true ∧
    reads [0b11101101, 0b01101111] .rld = true ∧
    reads [0b11101101, 0b10100000] .ldi = true ∧
    reads [0b11101101, 0b10110000] .ldir = true ∧
    reads [0b11101101, 0b10101000] .ldd = true ∧
    reads [0b11101101, 0b10111000] .lddr = true ∧
    reads [0b11101101, 0b10100001] .cpi = true ∧
    reads [0b11101101, 0b10110001] .cpir = true ∧
    reads [0b11101101, 0b10101001] .cpd = true ∧
    reads [0b11101101, 0b10111001] .cpdr = true ∧
    reads [0b11101101, 0b10100010] .ini = true ∧
    reads [0b11101101, 0b10110010] .inir = true ∧
    reads [0b11101101, 0b10101010] .ind = true ∧
    reads [0b11101101, 0b10111010] .indr = true := by decide

theorem test_decode_ed_3 :
    reads [0b11101101, 0b10100011] .outi = true ∧
    reads [0b11101101, 0b10110011] .otir = true ∧
    reads [0b11101101, 0b10101011] .outd = true ∧
    reads [0b11101101, 0b10111011] .otdr = true ∧
    reads [0b11101101, 0b01110111] (.unrecEd 0x77) = true := by decide

theorem test_decode_dd_1 :
    reads [0b11011101, 0b00100001, 0b00110100, 0b00010010] (.ldIxNn 0x1234) = true ∧
    reads [0b11011101, 0b00101010, 0b00110100, 0b00010010] (.ldIxIndNn 0x1234) = true ∧
    reads [0b11011101, 0b00100010, 0b00110100, 0b00010010] (.ldIndNnIx 0x1234) = true ∧
    reads [0b11011101, 0b11111001] .ldSpIx = true ∧
    reads [0b11011101, 0b11100101] .pushIx = true ∧
    reads [0b11011101, 0b11100001] .popIx = true ∧
    reads [0b11011101, 0b11100011] .exIndSpIx = true ∧
    reads [0b11011101, 0b00111001] (.addIxPp .sp) = true ∧
    reads [0b11011101, 0b00100011] .incIx = true ∧
    reads [0b11011101, 0b00101011] .decIx = true ∧
    reads [0b11011101, 0b11101001] .jpIndIx = true ∧
    reads [0b11011101, 0b01001110, 0b10000101] (.ldRIndIxD .c 0x85) = true ∧
    reads [0b11011101, 0b01110101, 0b10000101] (.ldIndIxDR 0x85 .l) = true ∧
    reads [0b11011101, 0b00110110, 0b10000101, 0b00110100] (.ldIndIxDN 0x85 0x34) = true ∧
    reads [0b11011101, 0b10000110, 0b10000101] (.addAIndIxD 0x85) = true := by decide

theorem test_decode_dd_2 :
    reads [0b11011101, 0b10001110, 0b10000101] (.adcAIndIxD 0x85) = true ∧
    reads [0b11011101, 0b10010110, 0b10000101] (.subIndIxD 0x85) = true ∧
    reads [0b11011101, 0b10011110, 0b10000101] (.sbcAIndIxD 0x85) = true ∧
    reads [0b11011101, 0b10100110, 0b10000101] (.andIndIxD 0x85) = true ∧
    reads [0b11011101, 0b10101110, 0b10000101] (.xorIndIxD 0x85) = true ∧
    reads [0b11011101, 0b10110110, 0b10000101] (.orIndIxD 0x85) = true ∧
    reads [0b11011101, 0b10111110, 0b10000101] (.cpIndIxD 0x85) = true ∧
    reads [0b11011101, 0b00110100, 0b10000101] (.incIndIxD 0x85) = true ∧
    reads [0b11011101, 0b00110101, 0b10000101] (.decIndIxD 0x85) = true := by decide

theorem test_decode_ddcb_1 :
    reads [0b11011101, 0b11001011, 0b10000101, 0b00000110] (.rlcIndIxD 0x85) = true ∧
    reads [0b11011101, 0b11001011, 0b10000101, 0b00001110] (.rrcIndIxD 0x85) = true ∧
    reads [0b11011101, 0b11001011, 0b10000101, 0b00010110] (.rlIndIxD 0x85) = true ∧
    reads [0b11011101, 0b11001011, 0b10000101, 0b00011110] (.rrIndIxD 0x85) = true ∧
    reads [0b11011101, 0b11001011, 0b10000101, 0b00100110] (.slaIndIxD 0x85) = true ∧
    reads [0b11011101, 0b11001011, 0b10000101, 0b00101110] (.sraIndIxD 0x85) = true ∧
    reads [0b11011101, 0b11001011, 0b10000101, 0b00110110] (.sllIndIxD 0x85) = true ∧
    reads [0b11011101, 0b11001011, 0b10000101, 0b00111110] (.srlIndIxD 0x85) = true ∧
    reads [0b11011101, 0b11001011, 0b10000101, 0b00101010] (.rotIndIxDR .sra 0x85 .d) = true ∧
    reads [0b11011101, 0b11001011, 0b10000101, 0b01111110] (.bitBIndIxD 7 0x85 6) = true ∧
    reads [0b11011101, 0b11001011, 0b10000101, 0b10010110] (.resBIndIxD 2 0x85) = true ∧
    reads [0b11011101, 0b11001011, 0b10000101, 0b11101110] (.setBIndIxD 5 0x85) = true ∧
    reads [0b11011101, 0b11001011, 0b10000101, 0b10110111] (.resBIndIxDR 6 0x85 .a) = true ∧
    reads [0b11011101, 0b11001011, 0b10000101, 0b11001000] (.setBIndIxDR 1 0x85 .b) = true := by decide

theorem test_decode_dd_3 :
    reads [0b11011101, 0b00111110] (.ddOther 0x3E) = true ∧
    reads [0b11011101, 0b01111100] (.unrecDd 0x7C) = true := by decide

theorem test_decode_fd_1 :
    reads [0b11111101, 0b00100001, 0b00110100, 0b00010010] (.ldIyNn 0x1234) = true ∧
    reads [0b11111101, 0b00101010, 0b00110100, 0b00010010] (.ldIyIndNn 0x1234) = true ∧
    reads [0b11111101, 0b00100010, 0b00110100, 0b00010010] (.ldIndNnIy 0x1234) = true ∧
    reads [0b11111101, 0b11111001] .ldSpIy = true ∧
    reads [0b11111101, 0b11100101] .pushIy = true ∧
    reads [0b11111101, 0b11100001] .popIy = true ∧
    reads [0b11111101, 0b11100011] .exIndSpIy = true ∧
    reads [0b11111101, 0b00111001] (.addIyPp .sp) = true ∧
    reads [0b11111101, 0b00100011] .incIy = true ∧
    reads [0b11111101, 0b00101011] .decIy = true ∧
    reads [0b11111101, 0b11101001] .jpIndIy = true ∧
    reads [0b11111101, 0b01010110, 0b10000101] (.ldRIndIyD .d 0x85) = true ∧
    reads [0b11111101, 0b01110100, 0b10000101] (.ldIndIyDR 0x85 .h) = true ∧
    reads [0b11111101, 0b00110110, 0b10000101, 0b00110100] (.ldIndIyDN 0x85 0x34) = true ∧
    reads [0b11111101, 0b10000110, 0b10000101] (.addAIndIyD 0x85) = true := by decide

theorem test_decode_fd_2 :
    reads [0b11111101, 0b10001110, 0b10000101] (.adcAIndIyD 0x85) = true ∧
    reads [0b11111101, 0b10010110, 0b10000101] (.subIndIyD 0x85) = true ∧
    reads [0b11111101, 0b10011110, 0b10000101] (.sbcAIndIyD 0x85) = true ∧
    reads [0b11111101, 0b10100110, 0b10000101] (.andIndIyD 0x85) = true ∧
    reads [0b11111101, 0b10101110, 0b10000101] (.xorIndIyD 0x85) = true ∧
    reads [0b11111101, 0b10110110, 0b10000101] (.orIndIyD 0x85) = true ∧
    reads [0b11111101, 0b10111110, 0b10000101] (.cpIndIyD 0x85) = true ∧
    reads [0b11111101, 0b00110100, 0b10000101] (.incIndIyD 0x85) = true ∧
    reads [0b11111101, 0b00110101, 0b10000101] (.decIndIyD 0x85) = true := by decide

theorem test_decode_fdcb_1 :
    reads [0b11111101, 0b11001011, 0b10000101, 0b00000110] (.rlcIndIyD 0x85) = true ∧
    reads [0b11111101, 0b11001011, 0b10000101, 0b00001110] (.rrcIndIyD 0x85) = true ∧
    reads [0b11111101, 0b11001011, 0b10000101, 0b00010110] (.rlIndIyD 0x85) = true ∧
    reads [0b11111101, 0b11001011, 0b10000101, 0b00011110] (.rrIndIyD 0x85) = true ∧
    reads [0b11111101, 0b11001011, 0b10000101, 0b00100110] (.slaIndIyD 0x85) = true ∧
    reads [0b11111101, 0b11001011, 0b10000101, 0b00101110] (.sraIndIyD 0x85) = true ∧
    reads [0b11111101, 0b11001011, 0b10000101, 0b00110110] (.sllIndIyD 0x85) = true ∧
    reads [0b11111101, 0b11001011, 0b10000101, 0b00111110] (.srlIndIyD 0x85) = true ∧
    reads [0b11111101, 0b11001011, 0b10000101, 0b00101000] (.rotIndIyDR .sra 0x85 .b) = true ∧
    reads [0b11111101, 0b11001011, 0b10000101, 0b01111001] (.bitBIndIyD 7 0x85 1) = true ∧
    reads [0b11111101, 0b11001011, 0b10000101, 0b10010110] (.resBIndIyD 2 0x85) = true ∧
    reads [0b11111101, 0b11001011, 0b10000101, 0b11101110] (.setBIndIyD 5 0x85) = true ∧
    reads [0b11111101, 0b11001011, 0b10000101, 0b10110011] (.resBIndIyDR 6 0x85 .e) = true ∧
    reads [0b11111101, 0b11001011, 0b10000101, 0b11001001] (.setBIndIyDR 1 0x85 .c) = true := by decide

theorem test_decode_fd_3 :
    reads [0b11111101, 0b00000100] (.fdOther 0x04) = true ∧
    reads [0b11111101, 0b11101011] (.unrecFd 0xEB) = true := by decide

/-- A list that ends inside its instruction, and the empty list, are rejected by name. -/
theorem test_decode_rejects :
    decode [] = .error .noByte ∧ decode [0xC3, 0x00] = .error .truncated ∧ decode [0xDD] = .error .truncated := by
  exact ⟨rfl, rfl, rfl⟩

/-! ## One step on a small state -/

/-- The reset state with bytes stored, PC at an address, and a quiet sample for one step. -/
def start (pc : Word) (bytes : List (Word × List Byte)) : State :=
  { State.reset with
    mem := bytes.foldl (fun m x => Memory.load m x.1 x.2) [], pc := pc, lines := [⟨false, false, 0⟩] }

/-- The step answers a next state with the given property. -/
def after (s : State) (p : State → Bool) : Bool :=
  match step s with
  | .next t => p t
  | _ => false

/-- Vector V1: ADD A,n 0x7F+0x01 (overflow). -/
theorem test_add_overflow :
    after { start 0x0000 [(0x0000, [0xC6, 0x01])] with a := 0x7F, f := 0x00 }
      (fun t => t.f == 0x94 && t.a == 0x80) = true := by decide

/-- Vector V4: ADC A,n 0xFF+0xFF+C. -/
theorem test_adc_carry_in :
    after { start 0x0000 [(0x0000, [0xCE, 0xFF])] with a := 0xFF, f := 0x01 }
      (fun t => t.f == 0x91) = true := by decide

/-- Vector V6: SUB n 0x00-0x01 (borrow). -/
theorem test_sub_borrow :
    after { start 0x0000 [(0x0000, [0xD6, 0x01])] with a := 0x00, f := 0x00 }
      (fun t => t.f == 0x93 && t.a == 0xFF) = true := by decide

/-- Vector V8: SBC A,n 0x00-0xFF-C. -/
theorem test_sbc_borrow_in :
    after { start 0x0000 [(0x0000, [0xDE, 0xFF])] with a := 0x00, f := 0x01 }
      (fun t => t.f == 0x53) = true := by decide

/-- Vector V11: CP n 0x7F vs 0xFF. -/
theorem test_cp_leaves_a :
    after { start 0x0000 [(0x0000, [0xFE, 0xFF])] with a := 0x7F, f := 0x00 }
      (fun t => t.f == 0x87 && t.a == 0x7F) = true := by decide

/-- Vector V13: XOR n 0xAA^0x01 (property 9). -/
theorem test_xor_parity :
    after { start 0x0000 [(0x0000, [0xEE, 0x01])] with a := 0xAA, f := 0x00 }
      (fun t => t.f == 0x80 && t.a == 0xAB) = true := by decide

/-- Vector V16: INC A 0x7F. -/
theorem test_inc_keeps_c :
    after { start 0x0000 [(0x0000, [0x3C])] with a := 0x7F, f := 0x01 }
      (fun t => t.f == 0x95 && t.a == 0x80) = true := by decide

/-- Vector V20: DEC B 0x00. -/
theorem test_dec_wraps :
    after { start 0x0000 [(0x0000, [0x05])] with b := 0x00, f := 0x00 }
      (fun t => t.f == 0x92 && t.b == 0xFF) = true := by decide

/-- Vector V21: INC (HL). -/
theorem test_inc_memory :
    after { start 0x0000 [(0x2000, [0x0F]), (0x0000, [0x34])] with h := 0x20, l := 0x00, f := 0x00 }
      (fun t => t.f == 0x10 && t.read8 0x2000 == 0x10) = true := by decide

/-- Vector V23: DAA 0x9A, N=0. -/
theorem test_daa_digit_and_carry :
    after { start 0x0000 [(0x0000, [0x27])] with a := 0x9A, f := 0x00 }
      (fun t => t.f == 0x55 && t.a == 0x00) = true := by decide

/-- Vector V33: ADD HL,BC 0xFFFF+1 (S,Z,PV kept). -/
theorem test_add_hl_wraps :
    after { start 0x0000 [(0x0000, [0x09])] with h := 0xFF, l := 0xFF, b := 0x00, c := 0x01, f := 0x00 }
      (fun t => t.f == 0x11 && t.h == 0x00 && t.l == 0x00) = true := by decide

/-- Vector V35: INC BC 0xFFFF (no flags). -/
theorem test_inc_pair_no_flags :
    after { start 0x0000 [(0x0000, [0x03])] with b := 0xFF, c := 0xFF, f := 0x00 }
      (fun t => t.f == 0x00 && t.b == 0x00 && t.c == 0x00) = true := by decide

/-- Vector V37: ADC HL,DE 0x7FFF+0+C. -/
theorem test_adc_hl_overflow :
    after { start 0x0000 [(0x0000, [0xED, 0x5A])] with h := 0x7F, l := 0xFF, d := 0x00, e := 0x00, f := 0x01 }
      (fun t => t.f == 0x94 && t.h == 0x80 && t.l == 0x00) = true := by decide

/-- Vector V38: SBC HL,BC 0-0-C. -/
theorem test_sbc_hl_borrow :
    after { start 0x0000 [(0x0000, [0xED, 0x42])] with h := 0x00, l := 0x00, b := 0x00, c := 0x00, f := 0x01 }
      (fun t => t.f == 0x93 && t.h == 0xFF && t.l == 0xFF) = true := by decide

/-- Vector V40: NEG 0x80. -/
theorem test_neg_80 :
    after { start 0x0000 [(0x0000, [0xED, 0x44])] with a := 0x80, f := 0x00 }
      (fun t => t.f == 0x87) = true := by decide

/-- Vector V48: LD HL,(nn) at 0xFFFF (wrap). -/
theorem test_ld_hl_wraps_memory :
    after (start 0x0000 [(0xFFFF, [0x34]), (0x0000, [0x2A, 0xFF, 0xFF])])
      (fun t => t.h == 0x2A && t.l == 0x34) = true := by decide

/-- Vector V49: LD (nn),HL. -/
theorem test_ld_ind_nn_hl_low_first :
    after { start 0x0000 [(0x0000, [0x22, 0x00, 0x20])] with h := 0xBE, l := 0xEF }
      (fun t => t.read8 0x2000 == 0xEF && t.read8 0x2001 == 0xBE) = true := by decide

/-- Vector V51: PUSH AF (A high). -/
theorem test_push_af :
    after { start 0x0000 [(0x0000, [0xF5])] with a := 0x12, f := 0x34, sp := 0x8000 }
      (fun t => t.read8 0x7FFE == 0x34 && t.read8 0x7FFF == 0x12 && t.sp == 0x7FFE) = true := by decide

/-- Vector V52: POP AF. -/
theorem test_pop_af :
    after { start 0x0000 [(0x7FFE, [0xD7, 0x5A]), (0x0000, [0xF1])] with sp := 0x7FFE }
      (fun t => t.f == 0xD7 && t.a == 0x5A && t.sp == 0x8000) = true := by decide

/-- Vector V53: PUSH BC at SP=0x0001 (wrap). -/
theorem test_push_wraps :
    after { start 0x0100 [(0x0100, [0xC5])] with b := 0x12, c := 0x34, sp := 0x0001 }
      (fun t => t.read8 0x0000 == 0x12 && t.read8 0xFFFF == 0x34 && t.sp == 0xFFFF) = true := by decide

/-- Vector V55: EXX. -/
theorem test_exx :
    after { start 0x0000 [(0x0000, [0xD9])] with
        b := 0x01, c := 0x02, d := 0x03, e := 0x04, h := 0x05, l := 0x06,
        b' := 0xA1, c' := 0xA2, d' := 0xA3, e' := 0xA4, h' := 0xA5, l' := 0xA6 }
      (fun t => t.b == 0xA1 && t.l == 0xA6 && t.b' == 0x01 && t.l' == 0x06) = true := by decide

/-- Vector V56: EX (SP),HL. -/
theorem test_ex_sp_hl :
    after { start 0x0000 [(0x8000, [0x78, 0x56]), (0x0000, [0xE3])] with h := 0x12, l := 0x34, sp := 0x8000 }
      (fun t => t.read8 0x8000 == 0x34 && t.read8 0x8001 == 0x12 && t.h == 0x56 && t.l == 0x78) = true := by decide

/-- Vector V62: JR e forward wrap. -/
theorem test_jr_wraps :
    after (start 0xFFF0 [(0xFFF0, [0x18, 0x20])])
      (fun t => t.pc == 0x0012) = true := by decide

/-- Vector V65: DJNZ B=1 falls through. -/
theorem test_djnz_falls_through :
    after { start 0x0300 [(0x0300, [0x10, 0xFE])] with b := 0x01 }
      (fun t => t.pc == 0x0302 && t.b == 0x00) = true := by decide

/-- Vector V66: DJNZ B=0 wraps and jumps. -/
theorem test_djnz_wraps :
    after { start 0x0300 [(0x0300, [0x10, 0xFE])] with b := 0x00 }
      (fun t => t.pc == 0x0300 && t.b == 0xFF) = true := by decide

/-- Vector V67: CALL nn. -/
theorem test_call :
    after { start 0x0100 [(0x0100, [0xCD, 0x34, 0x12])] with sp := 0x8000 }
      (fun t => t.read8 0x7FFE == 0x03 && t.read8 0x7FFF == 0x01 && t.pc == 0x1234 && t.sp == 0x7FFE) = true := by decide

/-- Vector V68: CALL C,nn not taken. -/
theorem test_call_not_taken :
    after { start 0x0100 [(0x0100, [0xDC, 0x34, 0x12])] with sp := 0x8000, f := 0x00 }
      (fun t => t.pc == 0x0103 && t.sp == 0x8000) = true := by decide

/-- Vector V70: RET M taken (S=1). -/
theorem test_ret_m_taken :
    after { start 0x0000 [(0x7FFE, [0x03, 0x01]), (0x0000, [0xF8])] with sp := 0x7FFE, f := 0x80 }
      (fun t => t.pc == 0x0103 && t.sp == 0x8000) = true := by decide

/-- Vector V71: RST 38h. -/
theorem test_rst_38 :
    after { start 0x0123 [(0x0123, [0xFF])] with sp := 0x8000 }
      (fun t => t.read8 0x7FFE == 0x24 && t.read8 0x7FFF == 0x01 && t.pc == 0x0038 && t.sp == 0x7FFE) = true := by decide

/-- Vector V75: EI. -/
theorem test_ei :
    after (start 0x0000 [(0x0000, [0xFB])])
      (fun t => t.iff1 && t.iff2) = true := by decide

/-- Vector V76: IN A,(n) (port A:n). -/
theorem test_in_a_port :
    after { start 0x0000 [(0x0000, [0xDB, 0x34])] with a := 0x12, portIn := [0x5A] }
      (fun t => t.a == 0x5A) = true := by decide

/-- Vector V77: OUT (n),A. -/
theorem test_out_port :
    after { start 0x0000 [(0x0000, [0xD3, 0x34])] with a := 0x12 }
      (fun t => t.portLog == [.write 0x1234 0x12]) = true := by decide

/-- Vector V79: RRC (HL) 0x01. -/
theorem test_rrc_memory :
    after { start 0x0000 [(0x2000, [0x01]), (0x0000, [0xCB, 0x0E])] with h := 0x20, l := 0x00, f := 0x00 }
      (fun t => t.f == 0x81 && t.read8 0x2000 == 0x80) = true := by decide

/-- Vector V81: RR D 0x01, C=1. -/
theorem test_rr_carry_in :
    after { start 0x0000 [(0x0000, [0xCB, 0x1A])] with d := 0x01, f := 0x01 }
      (fun t => t.f == 0x81 && t.d == 0x80) = true := by decide

/-- Vector V83: SRA H 0x80. -/
theorem test_sra_keeps_sign :
    after { start 0x0000 [(0x0000, [0xCB, 0x2C])] with h := 0x80, f := 0x00 }
      (fun t => t.f == 0x84 && t.h == 0xC0) = true := by decide

/-- Vector V84: SLL L 0x80. -/
theorem test_sll_sets_bit_0 :
    after { start 0x0000 [(0x0000, [0xCB, 0x35])] with l := 0x80, f := 0x00 }
      (fun t => t.f == 0x01 && t.l == 0x01) = true := by decide

/-- Vector V88: SET 7,(HL). -/
theorem test_set_memory :
    after { start 0x0000 [(0x2000, [0x00]), (0x0000, [0xCB, 0xFE])] with h := 0x20, l := 0x00 }
      (fun t => t.read8 0x2000 == 0x80) = true := by decide

/-- Vector V89: RES 0,A. -/
theorem test_res :
    after { start 0x0000 [(0x0000, [0xCB, 0x87])] with a := 0xFF }
      (fun t => t.a == 0xFE) = true := by decide

/-- Vector V90: IN B,(C). -/
theorem test_in_r_flags :
    after { start 0x0000 [(0x0000, [0xED, 0x40])] with b := 0x12, c := 0x34, f := 0x00, portIn := [0x00] }
      (fun t => t.f == 0x44 && t.b == 0x00) = true := by decide

/-- Vector V91: OUT (C),A. -/
theorem test_out_c_a :
    after { start 0x0000 [(0x0000, [0xED, 0x79])] with b := 0x12, c := 0x34, a := 0x99 }
      (fun t => t.portLog == [.write 0x1234 0x99]) = true := by decide

/-- Vector V93: LD SP,(nn). -/
theorem test_ld_sp_ind_nn :
    after (start 0x0000 [(0x2000, [0x00, 0x80]), (0x0000, [0xED, 0x7B, 0x00, 0x20])])
      (fun t => t.sp == 0x8000) = true := by decide

/-- Vector V96: LD A,I with IFF2=1. -/
theorem test_ld_a_i_iff2 :
    after { start 0x0000 [(0x0000, [0xED, 0x57])] with i := 0x80, f := 0x00, iff2 := true }
      (fun t => t.f == 0x84 && t.a == 0x80) = true := by decide

/-- Vector V97: LD R,A. -/
theorem test_ld_r_a_credit :
    after { start 0x0000 [(0x0000, [0xED, 0x4F])] with a := 0xFE }
      (fun t => t.r == 0x81) = true := by decide

/-- Vector V98: LD A,R. -/
theorem test_ld_a_r_before_credit :
    after { start 0x0000 [(0x0000, [0xED, 0x5F])] with r := 0x7E, f := 0x00 }
      (fun t => t.r == 0x01 && t.a == 0x7E) = true := by decide

/-- Vector V100: RLD. -/
theorem test_rld :
    after { start 0x0000 [(0x2000, [0x34]), (0x0000, [0xED, 0x6F])] with
        a := 0x12, h := 0x20, l := 0x00, f := 0x00 }
      (fun t => t.read8 0x2000 == 0x42 && t.a == 0x13) = true := by decide

/-- Vector V101: LDI BC=1. -/
theorem test_ldi_last :
    after { start 0x0000 [(0x2000, [0x41]), (0x0000, [0xED, 0xA0])] with
        h := 0x20, l := 0x00, d := 0x30, e := 0x00, b := 0x00, c := 0x01, f := 0xFF }
      (fun t => t.f == 0xE9 && t.read8 0x3000 == 0x41 && t.c == 0x00 && t.e == 0x01) = true := by decide

/-- Vector V103: LDIR BC=2, first iteration (rewind). -/
theorem test_ldir_rewinds :
    after { start 0x0000 [(0x2000, [0x41, 0x42]), (0x0000, [0xED, 0xB0])] with
        h := 0x20, l := 0x00, d := 0x30, e := 0x00, b := 0x00, c := 0x02, f := 0x00 }
      (fun t => t.f == 0x04 && t.read8 0x3000 == 0x41 && t.r == 0x06 && t.pc == 0x0000) = true := by decide

/-- Vector V106: CPI mismatch, BC=1. -/
theorem test_cpi :
    after { start 0x0000 [(0x2000, [0x20]), (0x0000, [0xED, 0xA1])] with
        a := 0x10, h := 0x20, l := 0x00, b := 0x00, c := 0x01, f := 0x00 }
      (fun t => t.f == 0x82 && t.c == 0x00 && t.l == 0x01) = true := by decide

/-- Vector V109: INI. -/
theorem test_ini :
    after { start 0x0000 [(0x0000, [0xED, 0xA2])] with
        b := 0x01, c := 0x10, h := 0x20, l := 0x00, f := 0x00, portIn := [0xFF] }
      (fun t => t.read8 0x2000 == 0xFF && t.b == 0x00 && t.l == 0x01) = true := by decide

/-- Vector V110: OUTD. -/
theorem test_outd_port_after_decrement :
    after { start 0x0000 [(0x2000, [0x66]), (0x0000, [0xED, 0xAB])] with
        b := 0x02, c := 0x10, h := 0x20, l := 0x00, f := 0x00 }
      (fun t => t.portLog == [.write 0x0110 0x66] && t.b == 0x01 && t.h == 0x1F && t.l == 0xFF) = true := by decide

/-- Vector V112: OTIR B=1 C=0x10, BC_NONZERO (repeats on). -/
theorem test_otir_bc_nonzero :
    after { start 0x0000 [(0x2000, [0xA1, 0xA2]), (0x0000, [0xED, 0xB3])] with
        b := 0x01, c := 0x10, h := 0x20, l := 0x00, f := 0x00, cfg := { Config.initial with blockioRepeat := .bcNonzero } }
      (fun t => t.portLog == [.write 0x0010 0xA1] && t.pc == 0x0000 && t.b == 0x00 && t.l == 0x01) = true := by decide

/-- Vector V113: RETN after NMI. -/
theorem test_retn :
    after { start 0x0066 [(0x7FFE, [0x34, 0x12]), (0x0066, [0xED, 0x45])] with sp := 0x7FFE, iff2 := true }
      (fun t => t.iff1 && t.pc == 0x1234 && t.sp == 0x8000) = true := by decide

/-- Vector V115: ED 00 unrecognised. -/
theorem test_ed_unrecognised :
    after (start 0x0000 [(0x0000, [0xED, 0x00, 0x3C])])
      (fun t => t.halted && t.pc == 0x0002) = true := by decide

/-- Vector V118: LD A,(IX+d) d=-1. -/
theorem test_ld_a_ix_minus_1 :
    after { start 0x0000 [(0x2000, [0x5A]), (0x0000, [0xDD, 0x7E, 0xFF])] with ix := 0x2001 }
      (fun t => t.a == 0x5A) = true := by decide

/-- Vector V121: ADD IX,IX. -/
theorem test_add_ix_ix :
    after { start 0x0000 [(0x0000, [0xDD, 0x29])] with ix := 0x8000, f := 0x00 }
      (fun t => t.f == 0x01 && t.ix == 0x0000) = true := by decide

/-- Vector V122: INC (IX+d) d=+127. -/
theorem test_inc_ix_plus_127 :
    after { start 0x0000 [(0x207F, [0x7F]), (0x0000, [0xDD, 0x34, 0x7F])] with ix := 0x2000, f := 0x00 }
      (fun t => t.f == 0x94 && t.read8 0x207F == 0x80) = true := by decide

/-- Vector V125: EX (SP),IY. -/
theorem test_ex_sp_iy :
    after { start 0x0000 [(0x8000, [0x78, 0x56]), (0x0000, [0xFD, 0xE3])] with iy := 0x1234, sp := 0x8000 }
      (fun t => t.read8 0x8000 == 0x34 && t.read8 0x8001 == 0x12 && t.iy == 0x5678) = true := by decide

/-- Vector V128: RLC (IX+d) -> B (register copy). -/
theorem test_rlc_ix_copy :
    after { start 0x0000 [(0x2002, [0x80]), (0x0000, [0xDD, 0xCB, 0x02, 0x00])] with ix := 0x2000, f := 0x00 }
      (fun t => t.f == 0x01 && t.read8 0x2002 == 0x01 && t.b == 0x01) = true := by decide

/-- Vector V132: DD 3E 12, P_DDFD_OTHER=ROOT. -/
theorem test_dd_other_root :
    after { start 0x0000 [(0x0000, [0xDD, 0x3E, 0x12])] with cfg := { Config.initial with ddfdOther := .root } }
      (fun t => t.pc == 0x0003 && t.a == 0x12) = true := by decide

/-- Vector V133: DD 26 12 (UNRECOGNISED class). -/
theorem test_dd_unrecognised :
    after (start 0x0000 [(0x0000, [0xDD, 0x26, 0x12])])
      (fun t => t.halted && t.pc == 0x0002) = true := by decide

/-- Vector V135: NMI with IFF1=IFF2=1. -/
theorem test_nmi :
    after { start 0x1234 [(0x1234, [0x00])] with
        sp := 0x8000, iff1 := true, iff2 := true, lines := [⟨true, false, 0xFF⟩] }
      (fun t => t.pc == 0x0066 && t.read8 0x7FFE == 0x34 && t.read8 0x7FFF == 0x12 && !t.iff1) = true := by decide

/-- Vector V137: IM 0, data=0xFF (RST 38h). -/
theorem test_int_mode_0 :
    after { start 0x1234 [(0x1234, [0x00])] with
        sp := 0x8000, iff1 := true, iff2 := true, im := .im0, lines := [⟨false, true, 0xFF⟩] }
      (fun t => t.pc == 0x0038 && t.read8 0x7FFE == 0x34 && t.read8 0x7FFF == 0x12 && !t.iff1) = true := by decide

/-- Vector V138: IM 0, data=0xCD (not RST). -/
theorem test_int_mode_0_not_rst :
    after { start 0x1234 [(0x1234, [0x00])] with
        sp := 0x8000, iff1 := true, iff2 := true, im := .im0, lines := [⟨false, true, 0xCD⟩] }
      (fun t => t.pc == 0x0008 && t.read8 0x7FFE == 0x34 && t.read8 0x7FFF == 0x12 && !t.iff1) = true := by decide

/-- Vector V140: IM 2, I=0x40, data=0x11 (odd). -/
theorem test_int_mode_2_odd :
    after { start 0x1234 [(0x4011, [0x00, 0x90]), (0x1234, [0x00])] with
        sp := 0x8000, iff1 := true, iff2 := true, im := .im2, i := 0x40, lines := [⟨false, true, 0x11⟩] }
      (fun t => t.pc == 0x9000 && t.read8 0x7FFE == 0x34 && t.read8 0x7FFF == 0x12 && !t.iff1) = true := by decide

/-- Vector V141: mi with IFF1=0 is ignored. -/
theorem test_masked_int_ignored :
    after { start 0x0000 [(0x0000, [0x00])] with im := .im1, lines := [⟨false, true, 0x00⟩] }
      (fun t => t.pc == 0x0001) = true := by decide

/-- Vector V142: halted step, no interrupt. -/
theorem test_halted_step :
    after { start 0x0011 [(0x0011, [0x00])] with halted := true }
      (fun t => t.pc == 0x0011) = true := by decide

/-- Vector V143: NMI wakes a halted core. -/
theorem test_nmi_wakes :
    after { start 0x0011 [(0x0011, [0x00])] with halted := true, sp := 0x8000, lines := [⟨true, false, 0xFF⟩] }
      (fun t => t.pc == 0x0066 && t.read8 0x7FFE == 0x11 && !t.halted && t.sp == 0x7FFE) = true := by decide

/-- Vector V147: R[6:0] wraps, R[7] sticky. -/
theorem test_r_wraps :
    after { start 0x0000 [(0x0000, [0x00])] with r := 0xFF }
      (fun t => t.r == 0x80) = true := by decide

/-- Vector V148: write below P_ROM_BOUNDARY ignored. -/
theorem test_rom_write_ignored :
    after { start 0x0000 [(0x0000, [0x32, 0x00, 0x10])] with
        a := 0x55, cfg := { Config.initial with romBoundary := 16384 } }
      (fun t => t.read8 0x1000 == 0x00) = true := by decide

/-! ## Free bits: the fixed bits of F whatever the free ones are -/

/-- Vectors V86 and V87: BIT 0 of 0xFE and BIT 7 of 0x80. -/
theorem test_bit_flags :
    ∀ x y : Bool, bitTest 0x01 0xFE 0 x y &&& 0x7B = 0x51 ∧ bitTest 0x00 0x80 7 x y &&& 0x7B = 0x10 := by decide

/-- Vectors V109 and V110: the flags of INI with B then 0 and of OUTD with B then 1, BC not 0 in both. -/
theorem test_block_io_flags :
    ∀ x y : Bool, blockIoFlags 0x00 true true x y &&& 0x6F = 0x46 ∧ blockIoFlags 0x00 false true x y &&& 0x6F = 0x06 := by
  decide

/-! ## The interface -/

/-- A table word is numbered with the first byte most significant (R124): LD B,0x0F, LD (IX+5),0x77, and bits it lacks. -/
theorem test_table_word :
    decodeTableWord 16 0x060F = some (.ldRN .b 0x0F) ∧ decodeTableWord 32 0xDD360577 = some (.ldIndIxDN 0x05 0x77) ∧
    decodeTableWord 8 0x3E = some (.ldRN .a 0x00) ∧ decodeTableWord 12 0x3E0 = none := by decide

/-- The step after `withFetchWord` runs the placed instruction. -/
theorem test_with_fetch_word :
    after (State.reset.withFetchWord 16 0x060F) (fun t => t.b == 0x0F && t.pc == 0x0002) = true := by decide

/-- Past the scheduled samples each line is a free value, and a draw is counted (R501). -/
theorem test_sample_past_schedule :
    State.reset.sample = ⟨Config.freeNmi 0, Config.freeMi 0, Config.freeData 0⟩ ∧ State.reset.polled.draws = 1 ∧
    (start 0x0000 []).polled.draws = 0 := ⟨rfl, rfl, rfl⟩

/-- The host reset keeps memory (R552). -/
theorem test_host_reset :
    (start 0x1234 [(0x1234, [0xAB])]).hostReset.read8 0x1234 = 0xAB ∧ (start 0x1234 []).hostReset.pc = 0x0000 := by decide

/-! ## Witnesses: a state and operands that meet every hypothesis of a statement together -/

/-- The reset state with the next sample given. -/
def sampled (nmi mi : Bool) : State := { State.reset with lines := [⟨nmi, mi, 0xFF⟩] }

/-- The reset state with both lines quiet at the next step. -/
def quiet : State := sampled false false

/-- The reset state after one NOP. -/
def afterNop : State := { State.reset with pc := 0x0001, r := 0x01 }

theorem test_witness_EncodeThenDecode :
    (Instr.ldIndIxDN 0x80 0xFF).wf = true ∧ (Instr.unrecEd 0xFF).wf = true ∧ (Instr.fdOther 0xFF).wf = true := by decide

theorem test_witness_UnrecognisedExactly :
    decode4 0xED 0xFF 0x00 0x00 = .unrecEd 0xFF ∧ decode4 0xDD 0x24 0x00 0x00 = .unrecDd 0x24 ∧
    decode4 0xFD 0xFD 0x00 0x00 = .unrecFd 0xFD ∧ decode4 0xDD 0x00 0x00 0x00 = .ddOther 0x00 ∧
    decode4 0xFD 0xFF 0x00 0x00 = .fdOther 0xFF := by decide

/-- LD (IX+5),0x77 at the end of memory, its last byte at address 1. -/
def wrapping : State := start 0xFFFE [(0xFFFE, [0xDD, 0x36, 0x05, 0x77])]

theorem test_witness_StepRunsInstruction :
    wrapping.sample.nmi = false ∧ wrapping.acceptsInt = false ∧ wrapping.halted = false ∧
    decode4 (wrapping.read8 wrapping.pc) (wrapping.read8 (wrapping.pc + 1)) (wrapping.read8 (wrapping.pc + 2))
      (wrapping.read8 (wrapping.pc + 3)) = .ldIndIxDN 0x05 0x77 := by decide

theorem test_witness_StepRunsEncoding :
    wrapping.sample.nmi = false ∧ wrapping.acceptsInt = false ∧ wrapping.halted = false ∧
    (Instr.ldIndIxDN 0x05 0x77).wf = true ∧
    ∀ k < (Instr.ldIndIxDN 0x05 0x77).length,
      (encode (.ldIndIxDN 0x05 0x77))[k]? = some (wrapping.read8 (wrapping.pc + BitVec.ofNat 16 k)) := by decide

theorem test_witness_NmiService :
    Memory.wf (sampled true true).mem = true ∧ (sampled true true).sample.nmi = true := by decide

/-- In each interrupt mode, and with each of the two ways not to be blocked. -/
theorem test_witness_MaskableService :
    ∀ m ∈ [IntMode.im0, .im1, .im2], ∀ p ∈ [(false, true), (true, false)],
      let s : State := { sampled false true with
        iff1 := true, im := m, cfg := { Config.initial with eiDelay := p.1 }, eiPending := p.2 }
      Memory.wf s.mem = true ∧ s.sample.nmi = false ∧ s.sample.mi = true ∧ s.iff1 = true ∧
      ¬ (s.cfg.eiDelay = true ∧ s.eiPending = true) ∧ s.im = m := by decide

/-- IFF1 off; the step after an EI under `P_EI_DELAY`; nmi at the same step. -/
theorem test_witness_MaskedRequestIgnored :
    ((sampled false true).lines = ⟨false, true, 0xFF⟩ :: [] ∧ (sampled false true).iff1 = false) ∧
    (let s : State := { sampled false true with
        iff1 := true, eiPending := true, cfg := { Config.initial with eiDelay := true } }
     s.lines = ⟨false, true, 0xFF⟩ :: [] ∧ s.cfg.eiDelay = true ∧ s.eiPending = true) ∧
    ((sampled true true).lines = ⟨true, true, 0xFF⟩ :: [] ∧ (Lines.mk true true 0xFF).nmi = true) := by decide

theorem test_witness_HaltedStaysHalted :
    let s : State := { sampled false true with halted := true }
    s.halted = true ∧ 1 ≤ s.lines.length ∧ (∀ x ∈ s.lines.take 1, x.nmi = false ∧ (x.mi = false ∨ s.iff1 = false)) := by decide

/-- Both values of `P_EI_DELAY`; an EI and a NOP at PC. -/
theorem test_witness_EiThenRequest :
    ∀ v : Bool,
      let s : State := { sampled false true with cfg := { Config.initial with eiDelay := v } }
      s.sample.nmi = false ∧ s.sample.mi = true ∧ s.cfg.eiDelay = v ∧ s.halted = false ∧
      ({ s with mem := [(0, 0xFB)] } : State).fetched = .ei ∧
      s.fetched ∉ [.ei, .ddOther 0xFB, .fdOther 0xFB] := by decide

theorem test_witness_InvariantKept : Inv quiet ∧ step quiet = .next afterNop :=
  ⟨⟨by decide, by decide, by decide⟩, rfl⟩

/-- The last byte below the boundary. -/
theorem test_witness_RomAndParametersFixed :
    let s : State := { quiet with cfg := { Config.initial with romBoundary := 0x8000 } }
    Memory.wf s.mem = true ∧
    step s = .next { afterNop with cfg := { Config.initial with romBoundary := 0x8000 } } ∧
    (0x7FFF : Word).toNat < s.cfg.romBoundary := ⟨by decide, rfl, by decide⟩

theorem test_witness_UndocumentedFlagsKept :
    exec .nop State.reset = .next { State.reset with r := 0x01 } ∧
    Instr.nop ∉ [.popQq .af, .exAfAf, .ddOther 0xF1, .ddOther 0x08, .fdOther 0xF1, .fdOther 0x08] := ⟨rfl, by decide⟩

theorem test_witness_SpecialRegisterWriters :
    exec .nop State.reset = .next { State.reset with r := 0x01 } ∧ Instr.nop ≠ .ldIA ∧ Instr.nop ≠ .ldRA ∧
    Instr.nop ∉ [.im0, .im1, .im2] ∧ Instr.nop ∉ [.exAfAf, .ddOther 0x08, .fdOther 0x08] ∧ Instr.nop ≠ .exx :=
  ⟨rfl, by decide⟩

theorem test_witness_HaltLatch :
    (Instr.wf .nop = true ∧ exec .nop State.reset = .next { State.reset with r := 0x01 }) ∧
    (let s : State := { quiet with halted := true }
     s.halted = true ∧ step s = .next { State.reset with halted := true }) := ⟨⟨by decide, rfl⟩, ⟨rfl, rfl⟩⟩

/-- RETN for the first clause, NOP for IFF1, EI without `P_EI_DELAY` for the latch. -/
theorem test_witness_FlipFlopWriters :
    (exec .nop State.reset = .next { State.reset with r := 0x01 } ∧
      Instr.nop ∉ [.ei, .di, .ddOther 0xFB, .ddOther 0xF3, .fdOther 0xFB, .fdOther 0xF3] ∧
      Instr.nop ∉ [.retn, .reti]) ∧
    Instr.retn ∉ [.ei, .di, .ddOther 0xFB, .ddOther 0xF3, .fdOther 0xFB, .fdOther 0xF3] ∧
    (exec .ei State.reset = .next { State.reset with iff1 := true, iff2 := true, r := 0x01 } ∧
      State.reset.cfg.eiDelay = false) := ⟨⟨rfl, by decide⟩, by decide, ⟨rfl, rfl⟩⟩

theorem test_witness_PortEventsInOrder :
    exec .nop State.reset = .next { State.reset with r := 0x01 } ∧
    (∀ n, Instr.nop ≠ .inAIndN n ∧ Instr.nop ≠ .outIndNA n) ∧ (∀ q, Instr.nop ≠ .inRIndC q ∧ Instr.nop ≠ .outIndCR q) ∧
    Instr.nop ∉ [.ini, .inir, .ind, .indr, .outi, .otir, .outd, .otdr, .ddOther 0xDB, .ddOther 0xD3, .fdOther 0xDB,
      .fdOther 0xD3] := ⟨rfl, by simp, by simp, by decide⟩

/-- Memory is in canonical form; an address just below the ROM boundary, and the boundary itself. -/
theorem test_witness_MemoryReadAfterWrite :
    let s : State := { start 0x4000 [(0x4000, [0x12])] with cfg := { Config.initial with romBoundary := 0x4000 } }
    Memory.wf s.mem = true ∧ (0x3FFF : Word).toNat < s.cfg.romBoundary ∧ ¬ (0x4000 : Word).toNat < s.cfg.romBoundary := by
  decide

theorem test_witness_MemoryCanonical :
    Memory.wf [(0, 0x01), (65535, 0xFF)] = true ∧
    (∀ a < 65536, Memory.get [(0, 0x01), (65535, 0xFF)] a = Memory.get [(0, 0x01), (65535, 0xFF)] a) :=
  ⟨by decide, fun _ _ => rfl⟩

/-- The lower of the two bytes lies just at the ROM boundary. -/
theorem test_witness_PushThenPop :
    let s : State := { State.reset with sp := 0x4002, cfg := { Config.initial with romBoundary := 0x4000 } }
    Memory.wf s.mem = true ∧ s.cfg.romBoundary ≤ (s.sp - 1).toNat ∧ s.cfg.romBoundary ≤ (s.sp - 2).toNat := by decide

/-- A memory with bytes at both ends. -/
def someBytes : State := start 0x0000 [(0x0000, [0xED, 0xB0]), (0xFFFF, [0x01])]

theorem test_witness_StoreByte : Memory.wf someBytes.mem = true := by decide
theorem test_witness_StoreWordAndPush : Memory.wf someBytes.mem = true := by decide
theorem test_witness_Exchanges : Memory.wf someBytes.mem = true := by decide
theorem test_witness_IncrementDecrement8 : Memory.wf someBytes.mem = true := by decide
theorem test_witness_RotateMemory : Memory.wf someBytes.mem = true := by decide
theorem test_witness_SetAndResetBit : Memory.wf someBytes.mem = true := by decide
theorem test_witness_NibbleRotates : Memory.wf someBytes.mem = true := by decide
theorem test_witness_BlockTransfers : Memory.wf someBytes.mem = true := by decide
theorem test_witness_BlockInputOutput : Memory.wf someBytes.mem = true := by decide

/-- A condition that holds and one that does not, with C, PE and M. -/
theorem test_witness_Jumps :
    condHolds .pe 0x04 = true ∧ condHolds .pe 0xFB = false ∧ condHolds (jrCond .c) 0x01 = true ∧
    condHolds (jrCond .c) 0xFE = false := by decide

theorem test_witness_CallsAndRestarts :
    Memory.wf someBytes.mem = true ∧ condHolds .m 0x80 = true ∧ condHolds .m 0x7F = false := by decide

theorem test_witness_ReturnInstructions : condHolds .nz 0xBF = true ∧ condHolds .nz 0x40 = false := by decide

theorem test_witness_Djnz :
    ({ State.reset with b := 0x00 } : State).b ≠ 1 ∧ ({ State.reset with b := 0x02 } : State).b ≠ 1 ∧
    ({ State.reset with b := 0x01 } : State).b = 1 := by decide

theorem test_witness_UnrecognisedHalts :
    ({ State.reset with cfg := { Config.initial with ddfdOther := .unrecognised } } : State).cfg.ddfdOther =
      .unrecognised := by decide

theorem test_witness_IgnoredIndexPrefix :
    isOther 0x00 = true ∧ isOther 0xFF = true ∧
    ({ State.reset with cfg := { Config.initial with ddfdOther := .root } } : State).cfg.ddfdOther = .root := by decide

end Sys2Proof.Tests
end

/-! Facts about the decoder: decoding the bytes of an encoding gives the instruction back, whatever bytes follow. -/

namespace Sys2Proof

/-! ## Fallback bytes

Every choice of the tables depends on the second byte alone, so its 256 values are decided with the bytes after it left
open. -/

theorem decodeEd_unrecognised (n m : Byte) :
    ∀ op : Byte, isUnrecognisedEd op = true → decodeEd op n m = .unrecEd op :=
  of_decide_eq_true rfl

theorem decodeIndexSet_isNone (n m : Byte) (x : Index) :
    ∀ op : Byte, (decodeIndexSet x op n m).isNone = !indexSet.contains op := by
  cases x <;> exact of_decide_eq_true rfl

/-- After DD or FD, a byte that is neither CB nor in INDEX_SET is unrecognised or in OTHER_SET (R117). -/
theorem decodeIndex_fallback (x : Index) {op : Byte} (n m : Byte) (hcb : op ≠ 0xCB)
    (hi : indexSet.contains op = false) :
    decodeIndex x op n m =
      if unrecognisedSet.contains op then pick x (.unrecDd op) (.unrecFd op)
      else pick x (.ddOther op) (.fdOther op) := by
  have hn : decodeIndexSet x op n m = none := by
    rw [← Option.isNone_iff_eq_none, decodeIndexSet_isNone, hi]; rfl
  simp only [decodeIndex, hcb, hn, if_false]

theorem decodeIndex_other (x : Index) {op : Byte} (n m : Byte) (h : isOther op = true) :
    decodeIndex x op n m = pick x (.ddOther op) (.fdOther op) := by
  obtain ⟨hcb, hi, hu⟩ : op ≠ 0xCB ∧ indexSet.contains op = false ∧ unrecognisedSet.contains op = false := by
    simpa only [isOther, Bool.not_eq_true', Bool.or_eq_false_iff, beq_eq_false_iff_ne, and_assoc] using h
  rw [decodeIndex_fallback x n m hcb hi, hu]; rfl

theorem unrecognisedSet_disjoint :
    ∀ op : Byte, isUnrecognisedIndex op = true → op ≠ 0xCB ∧ indexSet.contains op = false := by
  decide

theorem decodeIndex_unrecognised (x : Index) {op : Byte} (n m : Byte) (h : isUnrecognisedIndex op = true) :
    decodeIndex x op n m = pick x (.unrecDd op) (.unrecFd op) := by
  obtain ⟨hcb, hi⟩ := unrecognisedSet_disjoint op h
  rw [decodeIndex_fallback x n m hcb hi]
  exact if_pos h

/-! ## Round trip -/

/-- The fields of the fourth byte of BIT b,(XY+d), the ignored one included (R465). -/
theorem fields_bitIndex : ∀ (b : Fin 8) (reg : BitVec 3),
    fieldHi (0x40 ||| reg.setWidth 8 ||| bitCode b <<< 3) = 1 ∧
    fieldR (0x40 ||| reg.setWidth 8 ||| bitCode b <<< 3) = b ∧
    (0x40 ||| reg.setWidth 8 ||| bitCode b <<< 3 : Byte).extractLsb' 0 3 = reg := by
  decide

theorem decodeIndexCb_bit (x : Index) (b : Fin 8) (d : Byte) (reg : BitVec 3) :
    decodeIndexCb x d (0x40 ||| reg.setWidth 8 ||| bitCode b <<< 3) =
      pick x (.bitBIndIxD b d reg) (.bitBIndIyD b d reg) := by
  obtain ⟨hh, hr, hl⟩ := fields_bitIndex b reg
  simp only [decodeIndexCb, hh, hr, hl]

/-- The decoder reads four bytes that begin with an encoding as its instruction, whatever follows (R100, R119). -/
theorem decode4_of_encode {i : Instr} {b0 b1 b2 b3 : Byte} {rest : List Byte} (hwf : i.wf = true)
    (h : [b0, b1, b2, b3] = encode i ++ rest) : decode4 b0 b1 b2 b3 = i := by
  cases i with cases h
  | ldRR r r' => cases r <;> cases r' <;> rfl
  | ldRN r | ldRIndHl r | ldIndHlR r | addAR r | adcAR r | subR r | sbcAR r | andR r | xorR r | orR r | cpR r
  | incR r | decR r | rlcR r | rrcR r | rlR r | rrR r | slaR r | sraR r | sllR r | srlR r | inRIndC r | outIndCR r
  | ldRIndIxD r | ldRIndIyD r | ldIndIxDR _ r | ldIndIyDR _ r => cases r <;> rfl
  | ldAIndNn nn | ldIndNnA nn | ldHlIndNn nn | ldIndNnHl nn | jpNn nn | callNn nn | ldIxNn nn | ldIxIndNn nn
  | ldIndNnIx nn | ldIyNn nn | ldIyIndNn nn | ldIndNnIy nn => exact congrArg _ (mkWord_hiByte_loByte nn)
  | ldDdNn p nn | ldIndNnDd p nn | ldDdIndNn p nn => cases p <;> exact congrArg _ (mkWord_hiByte_loByte nn)
  | jpCNn cc nn | callCNn cc nn => cases cc <;> exact congrArg _ (mkWord_hiByte_loByte nn)
  | pushQq q | popQq q => cases q <;> rfl
  | addHlSs p | incSs p | decSs p | sbcHlSs p | adcHlSs p | addIxPp p | addIyPp p => cases p <;> rfl
  | jrCE cc | retC cc => cases cc <;> rfl
  | rstP b | bitBIndHl b | setBIndHl b | resBIndHl b | resBIndIxD b | setBIndIxD b | resBIndIyD b | setBIndIyD b =>
    fin_cases b <;> rfl
  | bitBR b r | setBR b r | resBR b r | resBIndIxDR b _ r | setBIndIxDR b _ r | resBIndIyDR b _ r
  | setBIndIyDR b _ r => cases r <;> fin_cases b <;> rfl
  | rotIndIxDR o d r | rotIndIyDR o d r => cases o <;> cases r <;> rfl
  | bitBIndIxD b _ reg => exact decodeIndexCb_bit .ix b _ reg
  | bitBIndIyD b _ reg => exact decodeIndexCb_bit .iy b _ reg
  | unrecEd => exact decodeEd_unrecognised _ _ _ hwf
  | ddOther => exact decodeIndex_other .ix _ _ hwf
  | fdOther => exact decodeIndex_other .iy _ _ hwf
  | unrecDd => exact decodeIndex_unrecognised .ix _ _ hwf
  | unrecFd => exact decodeIndex_unrecognised .iy _ _ hwf
  | _ => rfl

theorem encodedLength (i : Instr) : Laws.EncodedLength.Statement i := by
  cases i <;> exact Laws.EncodedLength.of_ble rfl rfl rfl

end Sys2Proof

/-! The frame of an instruction.  `Ordinary s t` names what almost every meaning leaves alone; the few instructions that
do more have that part said in `State.special`.  `answers_exec_running` says once, for every instruction, that its
meaning answers with a state that is ordinary after that part.  The statements about who writes a register follow from
the lemmas about `State.special`, one for each field. -/

namespace Sys2Proof.Machine

/-! ## What an ordinary operation leaves alone -/

/-- Bits 5 and 3 of a flag byte are those of the old one (R53). -/
def KeepsXY (f f' : Byte) : Prop := f'[5] = f[5] ∧ f'[3] = f[3]

/-- The second state may differ from the first in the registers A to L, the documented flags, R[6:0], IX, IY, SP, PC,
the ports, the inputs and the draws; memory may differ but stays canonical; nothing else differs. -/
structure Ordinary (s t : State) : Prop where
  altAf : t.a' = s.a' ∧ t.f' = s.f'
  altBank : t.b' = s.b' ∧ t.c' = s.c' ∧ t.d' = s.d' ∧ t.e' = s.e' ∧ t.h' = s.h' ∧ t.l' = s.l'
  i : t.i = s.i
  r7 : t.r[7] = s.r[7]
  im : t.im = s.im
  iff1 : t.iff1 = s.iff1
  iff2 : t.iff2 = s.iff2
  eiPending : t.eiPending = s.eiPending
  halted : t.halted = s.halted
  cfg : t.cfg = s.cfg
  flags : KeepsXY s.f t.f
  mem : Memory.wf s.mem = true → Memory.wf t.mem = true

@[simp] theorem keepsXY_self (f : Byte) : KeepsXY f f := ⟨rfl, rfl⟩

/-- Flags written by a mask that keeps bits 5 and 3 (R53, R150). -/
theorem keepsXY_mergeFlags {f keep : Byte} {s z h pv n c : Bool} (hk : keep &&& maskXY = maskXY) :
    KeepsXY f (mergeFlags f keep (newFlags s z h pv n c)) :=
  mergeFlags_keeps_5_3 f keep _ hk (newFlags_5 ..) (newFlags_3 ..)

section KeepsXY

variable (f a b : Byte) (c : Bool)

theorem keepsXY_add8 : KeepsXY f (add8 f a b c).2 := keepsXY_mergeFlags rfl
theorem keepsXY_sub8 : KeepsXY f (sub8 f a b c).2 := keepsXY_mergeFlags rfl
theorem keepsXY_and8 : KeepsXY f (and8 f a b).2 := keepsXY_mergeFlags rfl
theorem keepsXY_or8 : KeepsXY f (or8 f a b).2 := keepsXY_mergeFlags rfl
theorem keepsXY_xor8 : KeepsXY f (xor8 f a b).2 := keepsXY_mergeFlags rfl
theorem keepsXY_inc8 : KeepsXY f (inc8 f a).2 := keepsXY_mergeFlags rfl
theorem keepsXY_dec8 : KeepsXY f (dec8 f a).2 := keepsXY_mergeFlags rfl
theorem keepsXY_daa8 : KeepsXY f (daa8 f a).2 := keepsXY_mergeFlags rfl
theorem keepsXY_byteFlags : KeepsXY f (byteFlags f a c) := keepsXY_mergeFlags rfl
theorem keepsXY_rlca8 : KeepsXY f (rlca8 f a).2 := keepsXY_mergeFlags rfl
theorem keepsXY_rla8 : KeepsXY f (rla8 f a).2 := keepsXY_mergeFlags rfl
theorem keepsXY_rrca8 : KeepsXY f (rrca8 f a).2 := keepsXY_mergeFlags rfl
theorem keepsXY_rra8 : KeepsXY f (rra8 f a).2 := keepsXY_mergeFlags rfl
theorem keepsXY_add16 (v w : Word) : KeepsXY f (add16 f v w).2 := keepsXY_mergeFlags rfl
theorem keepsXY_adc16 (v w : Word) : KeepsXY f (adc16 f v w c).2 := keepsXY_mergeFlags rfl
theorem keepsXY_sbc16 (v w : Word) : KeepsXY f (sbc16 f v w c).2 := keepsXY_mergeFlags rfl
theorem keepsXY_cplFlags : KeepsXY f (cplFlags f) := keepsXY_mergeFlags rfl
theorem keepsXY_scfFlags : KeepsXY f (scfFlags f) := keepsXY_mergeFlags rfl
theorem keepsXY_ccfFlags : KeepsXY f (ccfFlags f) := keepsXY_mergeFlags rfl

end KeepsXY

theorem keepsXY_shift8 (o : Rot) (f v : Byte) : KeepsXY f (shift8 o f v).2 := by
  cases o <;> exact keepsXY_mergeFlags rfl

namespace Ordinary

variable {s t u : State}

theorem refl (s : State) : Ordinary s s :=
  ⟨⟨rfl, rfl⟩, ⟨rfl, rfl, rfl, rfl, rfl, rfl⟩, rfl, rfl, rfl, rfl, rfl, rfl, rfl, rfl, keepsXY_self _, id⟩

theorem trans (h : Ordinary s t) (k : Ordinary t u) : Ordinary s u where
  altAf := by simp only [k.altAf, h.altAf, and_self]
  altBank := by simp only [k.altBank, h.altBank, and_self]
  i := k.i.trans h.i
  r7 := k.r7.trans h.r7
  im := k.im.trans h.im
  iff1 := k.iff1.trans h.iff1
  iff2 := k.iff2.trans h.iff2
  eiPending := k.eiPending.trans h.eiPending
  halted := k.halted.trans h.halted
  cfg := k.cfg.trans h.cfg
  flags := ⟨k.flags.1.trans h.flags.1, k.flags.2.trans h.flags.2⟩
  mem := fun hm => k.mem (h.mem hm)

/-! ### The shared operations, each applied to a state already reached by ordinary ones -/

theorem setReg (h : Ordinary s t) {q : Reg8} {v : Byte} : Ordinary s (t.setReg q v) :=
  h.trans (by constructor <;> simp)

theorem setPair (h : Ordinary s t) {p : Pair} {v : Word} : Ordinary s (t.setPair p v) :=
  h.trans (by constructor <;> simp)

theorem setIndex (h : Ordinary s t) {x : Index} {v : Word} : Ordinary s (t.setIndex x v) :=
  h.trans (by constructor <;> simp)

theorem jump (h : Ordinary s t) {target : Word} : Ordinary s (t.jump target) :=
  h.trans (by constructor <;> simp)

theorem ioRead (h : Ordinary s t) {port : Word} : Ordinary s (t.ioRead port) :=
  h.trans (by constructor <;> simp)

theorem ioWrite (h : Ordinary s t) {port : Word} {v : Byte} : Ordinary s (t.ioWrite port v) :=
  h.trans (by constructor <;> simp)

theorem drewFlags (h : Ordinary s t) : Ordinary s t.drewFlags :=
  h.trans (by constructor <;> simp)

theorem wait (h : Ordinary s t) {k : Nat} : Ordinary s (t.wait k) :=
  h.trans (by constructor <;> simp [wait_r_7])

theorem write8 (h : Ordinary s t) {addr : Word} {v : Byte} : Ordinary s (t.write8 addr v) :=
  h.trans (by constructor <;> simp +contextual [wf_write8])

/-- F may be written with bits 5 and 3 of the byte the first state holds. -/
theorem setFlags (h : Ordinary s t) {f : Byte} (hf : KeepsXY s.f f) : Ordinary s { t with f := f } :=
  { h with flags := hf }

theorem spend (h : Ordinary s t) {rule k : Nat} : Ordinary s (t.spend rule k) := h.wait

theorem spendSecond (h : Ordinary s t) {rule k : Nat} : Ordinary s (t.spendSecond rule k) := h.wait

theorem write16 (h : Ordinary s t) {addr v : Word} : Ordinary s (t.write16 addr v) := h.write8.write8

theorem push16 (h : Ordinary s t) {v : Word} : Ordinary s (t.push16 v) := h.write8.write8.setPair (p := .sp)

theorem pop16 (h : Ordinary s t) : Ordinary s t.pop16 := h.setPair (p := .sp)

theorem exchangeTop (h : Ordinary s t) {v : Word} : Ordinary s (t.exchangeTop v) := h.write8.write8

theorem call (h : Ordinary s t) {target : Word} : Ordinary s (t.call target) := h.push16.jump

theorem ret (h : Ordinary s t) : Ordinary s t.ret := h.pop16.jump

theorem repeatIf (h : Ordinary s t) {again : Bool} {rule : Nat} : Ordinary s (t.repeatIf again rule) := by
  cases again
  · exact h.spendSecond
  · exact h.jump.spend

theorem setStackPair (h : Ordinary s t) {q : StackPair} {v : Word} (hq : q ≠ .af) :
    Ordinary s (t.setStackPair q v) := by
  cases q with
  | bc => exact h.setPair (p := .bc)
  | de => exact h.setPair (p := .de)
  | hl => exact h.setPair (p := .hl)
  | af => exact absurd rfl hq

theorem ite (h : Ordinary s t) (k : Ordinary s u) {c : Prop} [Decidable c] : Ordinary s (if c then t else u) := by
  split
  · exact h
  · exact k

section Flags

variable {p : Byte × Byte} {w : Word × Byte}

theorem toAcc (h : Ordinary s t) (hf : KeepsXY s.f p.2) : Ordinary s (t.toAcc p) := (h.setReg (q := .a)).setFlags hf

theorem toFlags (h : Ordinary s t) (hf : KeepsXY s.f p.2) : Ordinary s (t.toFlags p) := h.setFlags hf

theorem toReg (h : Ordinary s t) {q : Reg8} (hf : KeepsXY s.f p.2) : Ordinary s (t.toReg q p) := h.setReg.setFlags hf

theorem toMem (h : Ordinary s t) {addr : Word} (hf : KeepsXY s.f p.2) : Ordinary s (t.toMem addr p) :=
  h.write8.setFlags hf

theorem toHl (h : Ordinary s t) (hf : KeepsXY s.f w.2) : Ordinary s (t.toHl w) := (h.setPair (p := .hl)).setFlags hf

theorem toIndex (h : Ordinary s t) {x : Index} (hf : KeepsXY s.f w.2) : Ordinary s (t.toIndex x w) :=
  h.setIndex.setFlags hf

end Flags

theorem testBit (s : State) (v : Byte) (b : Fin 8) : Ordinary s (s.testBit v b) :=
  (refl s).drewFlags.setFlags (keepsXY_mergeFlags rfl)

theorem nibbleRotate (s : State) (m v : Byte) : Ordinary s (s.nibbleRotate m v) :=
  (refl s).write8.toAcc (keepsXY_byteFlags ..)

/-! ### The block instructions -/

theorem blockLoad (s : State) (step : Word) : Ordinary s (s.blockLoad step) :=
  ((((refl s).write8.setPair (p := .hl)).setPair (p := .de)).setPair (p := .bc)).setFlags (keepsXY_mergeFlags rfl)

theorem blockCompare (s : State) (step : Word) : Ordinary s (s.blockCompare step) :=
  (((refl s).setPair (p := .hl)).setPair (p := .bc)).setFlags (keepsXY_mergeFlags rfl)

/-- The end of one block I/O writes the flags from the F it meets. -/
theorem blockIoEnd (s : State) (step : Word) : Ordinary s (s.blockIoEnd step) :=
  (((refl s).setPair (p := .hl) (v := s.hl + step)).drewFlags.setReg (q := .b) (v := s.b - 1)).setFlags
    (keepsXY_mergeFlags rfl)

theorem blockIn (s : State) (step : Word) : Ordinary s (s.blockIn step) := (refl s).ioRead.write8.trans (blockIoEnd ..)

theorem blockOut (s : State) (step : Word) : Ordinary s (s.blockOut step) := (refl s).ioWrite.trans (blockIoEnd ..)

end Ordinary

/-! ## What the other instructions do besides -/

/-- What the instructions that are not ordinary do before their credit; an ordinary instruction does nothing here. -/
def State.special (s : State) : Instr → State
  | .popQq .af => s.pop16.setAf s.popped
  | .exAfAf => { s with a := s.a', f := s.f', a' := s.a, f' := s.f }
  | .exx =>
    { s with
      b := s.b', c := s.c', d := s.d', e := s.e', h := s.h', l := s.l'
      b' := s.b, c' := s.c, d' := s.d, e' := s.e, h' := s.h, l' := s.l }
  | .halt | .unrecEd _ | .unrecDd _ | .unrecFd _ => s.unrecognised
  | .di => { s with iff1 := false, iff2 := false }
  | .ei => { s with iff1 := true, iff2 := true, eiPending := if s.cfg.eiDelay then true else s.eiPending }
  | .retn | .reti => s.returnFromInterrupt
  | .im0 => { s with im := .im0 }
  | .im1 => { s with im := .im1 }
  | .im2 => { s with im := .im2 }
  | .ldIA => { s with i := s.a }
  | .ldRA => { s with r := s.a }
  | _ => s

/-- A DD or FD before a byte of OTHER_SET: the two forms whose meaning is that of another instruction (R470). -/
def isOtherForm : Instr → Bool
  | .ddOther _ | .fdOther _ => true
  | _ => false

/-- The outcome goes on to a state that is ordinary after `s`. -/
def Answers (o : Out) (s : State) : Prop := ∃ t, o = .next t ∧ Ordinary s t

open Ordinary in
/-- Every meaning but that of DD or FD before OTHER_SET goes on, and does nothing special but its special part. -/
theorem answers_exec (s : State) {i : Instr} (h : isOtherForm i = false) :
    Answers (exec i s) (s.special i) := by
  cases i with
  | ldRR | ldRN | ldRIndHl | setBR | resBR | ldRIndIxD | ldRIndIyD => exact ⟨_, rfl, (refl s).setReg.spend⟩
  | ldAIndBc | ldAIndDe | ldAIndNn => exact ⟨_, rfl, ((refl s).setReg (q := .a)).spend⟩
  | ldIndHlR | ldIndHlN | ldIndBcA | ldIndDeA | ldIndNnA | setBIndHl | resBIndHl
  | ldIndIxDR | ldIndIxDN | resBIndIxD | setBIndIxD | ldIndIyDR | ldIndIyDN | resBIndIyD | setBIndIyD =>
    exact ⟨_, rfl, (refl s).write8.spend⟩
  | resBIndIxDR | setBIndIxDR | resBIndIyDR | setBIndIyDR => exact ⟨_, rfl, (refl s).write8.setReg.spend⟩
  | ldDdNn | incSs | decSs | ldDdIndNn => exact ⟨_, rfl, (refl s).setPair.spend⟩
  | ldHlIndNn => exact ⟨_, rfl, ((refl s).setPair (p := .hl)).spend⟩
  | ldSpHl | ldSpIx | ldSpIy => exact ⟨_, rfl, ((refl s).setPair (p := .sp)).spend⟩
  | ldIxNn | ldIxIndNn | incIx | decIx | ldIyNn | ldIyIndNn | incIy | decIy => exact ⟨_, rfl, (refl s).setIndex.spend⟩
  | ldIndNnHl | ldIndNnDd | ldIndNnIx | ldIndNnIy => exact ⟨_, rfl, (refl s).write16.spend⟩
  | pushQq | pushIx | pushIy => exact ⟨_, rfl, (refl s).push16.spend⟩
  | popQq q => cases q with
    | bc | de | hl => exact ⟨_, rfl, ((refl s).pop16.setStackPair (by decide)).spend⟩
    | af => exact ⟨_, rfl, (refl _).spend⟩
  | popIx | popIy => exact ⟨_, rfl, (refl s).pop16.setIndex.spend⟩
  | exDeHl => exact ⟨_, rfl, (((refl s).setPair (p := .de)).setPair (p := .hl)).spend⟩
  | exIndSpHl => exact ⟨_, rfl, ((refl s).exchangeTop.setPair (p := .hl)).spend⟩
  | exIndSpIx | exIndSpIy => exact ⟨_, rfl, (refl s).exchangeTop.setIndex.spend⟩
  | addAR | addAN | addAIndHl | addAIndIxD | addAIndIyD | adcAR | adcAN | adcAIndHl | adcAIndIxD | adcAIndIyD =>
    exact ⟨_, rfl, ((refl s).toAcc (keepsXY_add8 ..)).spend⟩
  | subR | subN | subIndHl | subIndIxD | subIndIyD | sbcAR | sbcAN | sbcAIndHl | sbcAIndIxD | sbcAIndIyD =>
    exact ⟨_, rfl, ((refl s).toAcc (keepsXY_sub8 ..)).spend⟩
  | neg => exact ⟨_, rfl, ((refl s).toAcc (keepsXY_sub8 ..)).spend⟩
  | andR | andN | andIndHl | andIndIxD | andIndIyD => exact ⟨_, rfl, ((refl s).toAcc (keepsXY_and8 ..)).spend⟩
  | xorR | xorN | xorIndHl | xorIndIxD | xorIndIyD => exact ⟨_, rfl, ((refl s).toAcc (keepsXY_xor8 ..)).spend⟩
  | orR | orN | orIndHl | orIndIxD | orIndIyD => exact ⟨_, rfl, ((refl s).toAcc (keepsXY_or8 ..)).spend⟩
  | cpR | cpN | cpIndHl | cpIndIxD | cpIndIyD => exact ⟨_, rfl, ((refl s).toFlags (keepsXY_sub8 ..)).spend⟩
  | daa => exact ⟨_, rfl, ((refl s).toAcc (keepsXY_daa8 ..)).spend⟩
  | cpl => exact ⟨_, rfl, ((refl s).toAcc (p := (_, cplFlags _)) (keepsXY_cplFlags ..)).spend⟩
  | rlca => exact ⟨_, rfl, ((refl s).toAcc (keepsXY_rlca8 ..)).spend⟩
  | rla => exact ⟨_, rfl, ((refl s).toAcc (keepsXY_rla8 ..)).spend⟩
  | rrca => exact ⟨_, rfl, ((refl s).toAcc (keepsXY_rrca8 ..)).spend⟩
  | rra => exact ⟨_, rfl, ((refl s).toAcc (keepsXY_rra8 ..)).spend⟩
  | ldAI | ldAR => exact ⟨_, rfl, ((refl s).toAcc (p := (_, byteFlags ..)) (keepsXY_byteFlags ..)).spend⟩
  | scf => exact ⟨_, rfl, ((refl s).setFlags (keepsXY_scfFlags ..)).spend⟩
  | ccf => exact ⟨_, rfl, ((refl s).setFlags (keepsXY_ccfFlags ..)).spend⟩
  | incR => exact ⟨_, rfl, ((refl s).toReg (keepsXY_inc8 ..)).spend⟩
  | decR => exact ⟨_, rfl, ((refl s).toReg (keepsXY_dec8 ..)).spend⟩
  | rlcR | rrcR | rlR | rrR | slaR | sraR | sllR | srlR => exact ⟨_, rfl, ((refl s).toReg (keepsXY_shift8 ..)).spend⟩
  | incIndHl | incIndIxD | incIndIyD => exact ⟨_, rfl, ((refl s).toMem (keepsXY_inc8 ..)).spend⟩
  | decIndHl | decIndIxD | decIndIyD => exact ⟨_, rfl, ((refl s).toMem (keepsXY_dec8 ..)).spend⟩
  | rlcIndHl | rrcIndHl | rlIndHl | rrIndHl | slaIndHl | sraIndHl | sllIndHl | srlIndHl
  | rlcIndIxD | rrcIndIxD | rlIndIxD | rrIndIxD | slaIndIxD | sraIndIxD | sllIndIxD | srlIndIxD
  | rlcIndIyD | rrcIndIyD | rlIndIyD | rrIndIyD | slaIndIyD | sraIndIyD | sllIndIyD | srlIndIyD =>
    exact ⟨_, rfl, ((refl s).toMem (keepsXY_shift8 ..)).spend⟩
  | rotIndIxDR | rotIndIyDR => exact ⟨_, rfl, ((refl s).toMem (keepsXY_shift8 ..)).setReg.spend⟩
  | addHlSs => exact ⟨_, rfl, ((refl s).toHl (keepsXY_add16 ..)).spend⟩
  | sbcHlSs => exact ⟨_, rfl, ((refl s).toHl (keepsXY_sbc16 ..)).spend⟩
  | adcHlSs => exact ⟨_, rfl, ((refl s).toHl (keepsXY_adc16 ..)).spend⟩
  | addIxPp | addIyPp => exact ⟨_, rfl, ((refl s).toIndex (keepsXY_add16 ..)).spend⟩
  | bitBR | bitBIndHl | bitBIndIxD | bitBIndIyD => exact ⟨_, rfl, (testBit ..).spend⟩
  | rrd | rld => exact ⟨_, rfl, (nibbleRotate ..).spend⟩
  | nop => exact ⟨_, rfl, (refl s).spend⟩
  | jpNn | jrE | jpIndHl | jpIndIx | jpIndIy => exact ⟨_, rfl, (refl s).jump.spend⟩
  | jpCNn => exact ⟨_, rfl, ((refl s).jump.ite (refl s)).spend⟩
  | jrCE => exact ⟨_, rfl, (refl s).jump.spend.ite (refl s).spendSecond⟩
  | djnzE => exact ⟨_, rfl, ((refl s).setReg (q := .b)).jump.wait.ite ((refl s).setReg (q := .b)).wait⟩
  | callNn | rstP => exact ⟨_, rfl, (refl s).call.spend⟩
  | callCNn => exact ⟨_, rfl, (refl s).call.spend.ite (refl s).spendSecond⟩
  | ret => exact ⟨_, rfl, (refl s).ret.spend⟩
  | retC => exact ⟨_, rfl, (refl s).ret.spend.ite (refl s).spendSecond⟩
  | inAIndN => exact ⟨_, rfl, ((refl s).ioRead.setReg (q := .a)).spend⟩
  | inRIndC => exact ⟨_, rfl, ((refl s).ioRead.toReg (p := (_, byteFlags ..)) (keepsXY_byteFlags ..)).spend⟩
  | outIndNA | outIndCR => exact ⟨_, rfl, (refl s).ioWrite.spend⟩
  | ldi | ldd => exact ⟨_, rfl, (blockLoad ..).spend⟩
  | ldir | lddr => exact ⟨_, rfl, (blockLoad ..).repeatIf⟩
  | cpi | cpd => exact ⟨_, rfl, (blockCompare ..).spend⟩
  | cpir | cpdr => exact ⟨_, rfl, (blockCompare ..).repeatIf⟩
  | ini | ind => exact ⟨_, rfl, (blockIn ..).spend⟩
  | inir | indr => exact ⟨_, rfl, (blockIn ..).repeatIf⟩
  | outi | outd => exact ⟨_, rfl, (blockOut ..).spend⟩
  | otir | otdr => exact ⟨_, rfl, (blockOut ..).repeatIf⟩
  | exAfAf | exx | halt | di | ei | retn | reti | im0 | im1 | im2 | ldIA | ldRA => exact ⟨_, rfl, (refl _).spend⟩
  | unrecEd | unrecDd | unrecFd => exact ⟨_, rfl, refl _⟩
  | ddOther | fdOther => exact absurd h Bool.noConfusion

/-! ## DD and FD before OTHER_SET -/

/-- The root instructions that may run after an ignored DD or FD (R470). -/
def rootOther : Instr → Bool
  | .ldRR .. | .ldRN .. | .ldAIndBc | .ldAIndDe | .ldAIndNn .. | .ldIndBcA | .ldIndDeA | .ldIndNnA ..
  | .ldDdNn .. | .pushQq .. | .popQq .. | .exAfAf | .addAR .. | .addAN .. | .adcAR .. | .adcAN .. | .subR ..
  | .subN .. | .sbcAR .. | .sbcAN .. | .andR .. | .andN .. | .xorR .. | .xorN .. | .orR .. | .orN .. | .cpR ..
  | .cpN .. | .incR .. | .decR .. | .daa | .cpl | .scf | .ccf | .incSs .. | .decSs .. | .rlca | .rla | .rrca
  | .rra | .jpNn .. | .jpCNn .. | .jrE .. | .jrCE .. | .djnzE .. | .callNn .. | .callCNn .. | .ret | .retC ..
  | .rstP .. | .nop | .halt | .di | .ei | .inAIndN .. | .outIndNA .. => true
  | _ => false

/-- Such a root instruction has the meaning `exec` gives; any other halts the core (log entry 17). -/
theorem execRootOther_eq (s : State) (i : Instr) :
    execRootOther i s = if rootOther i then exec i s else .next s.unrecognised := by
  cases i <;> rfl

/-- The root instruction that runs after a DD or FD before `op`, if the parameters let it (R470). -/
def State.afterPrefix (s : State) (op : Byte) : Option Instr :=
  match s.cfg.ddfdOther with
  | .unrecognised => none
  | .root => (s.rootAfterPrefix op).filter rootOther

/-- The instruction whose special part an instruction has: itself, but for a DD or FD before OTHER_SET. -/
def State.running (s : State) : Instr → Instr
  | .ddOther op => (s.afterPrefix op).getD (.unrecDd op)
  | .fdOther op => (s.afterPrefix op).getD (.unrecFd op)
  | i => i

theorem Answers.withPrefixCost {o : Out} {s : State} (h : Answers o s) : Answers (withPrefixCost o) s := by
  obtain ⟨t, rfl, ht⟩ := h
  exact ⟨t.wait 4, rfl, ht.wait⟩

/-- The special part of an instruction does not depend on PC, and at most moves it. -/
theorem special_jump (s : State) (p : Word) (i : Instr) : Ordinary (s.special i) ((s.jump p).special i) := by
  unfold State.special
  split <;> exact (Ordinary.refl _).jump

theorem isOtherForm_eq_false {i : Instr} (hd : ∀ op, i = .ddOther op → False) (hf : ∀ op, i = .fdOther op → False) :
    isOtherForm i = false := by
  unfold isOtherForm
  split
  · exact (hd _ rfl).elim
  · exact (hf _ rfl).elim
  · rfl

theorem isOtherForm_of_rootOther {i : Instr} (h : rootOther i = true) : isOtherForm i = false := by
  cases i with
  | ddOther | fdOther => exact absurd h Bool.noConfusion
  | _ => rfl

theorem answers_execOther (s : State) (op : Byte) {u : Instr} (hu : s.special u = s.unrecognised) :
    Answers (execOther op s) (s.special ((s.afterPrefix op).getD u)) := by
  unfold execOther State.afterPrefix
  cases s.cfg.ddfdOther with
  | unrecognised => exact ⟨_, rfl, hu ▸ .refl _⟩
  | root =>
    cases s.rootAfterPrefix op with
    | none => exact ⟨_, rfl, hu ▸ .refl _⟩
    | some i =>
      simp only [execRootOther_eq, Option.filter]
      split
      · next hi =>
        refine Answers.withPrefixCost ?_
        obtain ⟨t, ht, ho⟩ := answers_exec (s.jump _) (isOtherForm_of_rootOther hi)
        exact ⟨t, ht, (special_jump s _ i).trans ho⟩
      · exact ⟨_, rfl, hu ▸ (Ordinary.refl s.unrecognised).jump.wait⟩

/-- Every instruction goes on, and does nothing special but the special part of the instruction that runs. -/
theorem answers_exec_running (s : State) (i : Instr) : Answers (exec i s) (s.special (s.running i)) := by
  unfold State.running
  split
  · exact answers_execOther s _ rfl
  · exact answers_execOther s _ rfl
  · next hd hf => exact answers_exec s (isOtherForm_eq_false hd hf)

/-- What an instruction leaves is ordinary after the special part of the instruction that runs. -/
theorem ordinary_of_exec {i : Instr} {s t : State} (h : exec i s = .next t) : Ordinary (s.special (s.running i)) t := by
  obtain ⟨u, hu, ho⟩ := answers_exec_running s i
  rw [hu] at h
  exact Host.Outcome.next.inj h ▸ ho

/-! ## What the special parts write, field by field

In each proof the branches that write the field contradict the hypotheses, and the update of every other branch leaves
it alone. -/

section Special

variable (s : State) {i : Instr}

theorem special_f (hp : i ≠ .popQq .af) (he : i ≠ .exAfAf) : (s.special i).f = s.f := by
  unfold State.special
  split <;> simp_all

theorem special_i (h : i ≠ .ldIA) : (s.special i).i = s.i := by
  unfold State.special
  split <;> simp_all

theorem special_r (h : i ≠ .ldRA) : (s.special i).r = s.r := by
  unfold State.special
  split <;> simp_all

theorem special_im (h0 : i ≠ .im0) (h1 : i ≠ .im1) (h2 : i ≠ .im2) : (s.special i).im = s.im := by
  unfold State.special
  split <;> simp_all

theorem special_altAf (h : i ≠ .exAfAf) : (s.special i).a' = s.a' ∧ (s.special i).f' = s.f' := by
  unfold State.special
  split <;> simp_all

theorem special_altBank (h : i ≠ .exx) :
    (s.special i).b' = s.b' ∧ (s.special i).c' = s.c' ∧ (s.special i).d' = s.d' ∧ (s.special i).e' = s.e' ∧
    (s.special i).h' = s.h' ∧ (s.special i).l' = s.l' := by
  unfold State.special
  split <;> simp_all

theorem special_iff2 (he : i ≠ .ei) (hd : i ≠ .di) : (s.special i).iff2 = s.iff2 := by
  unfold State.special
  split <;> simp_all

theorem special_iff1 (he : i ≠ .ei) (hd : i ≠ .di) (hn : i ≠ .retn) (hi : i ≠ .reti) : (s.special i).iff1 = s.iff1 := by
  unfold State.special
  split <;> simp_all

theorem special_eiPending (h : i ≠ .ei ∨ s.cfg.eiDelay = false) : (s.special i).eiPending = s.eiPending := by
  unfold State.special
  split <;> simp_all

theorem unrecognised_eq_false (cfg : Config) (h : isOtherForm i = false) (he : ∀ op, i ≠ .unrecEd op)
    (hd : ∀ op, i ≠ .unrecDd op) (hf : ∀ op, i ≠ .unrecFd op) : Instr.unrecognised cfg i = false := by
  unfold Instr.unrecognised
  split <;> simp_all [isOtherForm]

theorem special_halted (h : isOtherForm i = false) :
    (s.special i).halted = true ↔ s.halted = true ∨ i = .halt ∨ Instr.unrecognised s.cfg i = true := by
  unfold State.special
  split
  case h_17 => simp_all [unrecognised_eq_false]
  all_goals simp [Instr.unrecognised]

end Special

/-! ## The invariant -/

theorem Ordinary.inv {s t : State} (h : Ordinary s t) (hs : Inv s) : Inv t where
  mem := h.mem hs.mem
  iff := by rw [h.iff1, h.iff2]; exact hs.iff
  latch := by rw [h.eiPending, h.cfg, h.iff1, h.iff2, h.halted]; exact hs.latch

/-- A special part keeps the invariant when it starts, as a step does, with the latch clear and the core running: only
EI sets the latch, and it turns both flip-flops on. -/
theorem special_inv {s : State} (hs : Inv s) (hl : s.eiPending = false) (hh : s.halted = false) (i : Instr) :
    Inv (s.special i) := by
  obtain ⟨hmem, hiff, -⟩ := hs
  unfold State.special
  split <;> constructor <;> simp_all

/-! ## Which instruction runs -/

/-- The first byte of a root instruction's encoding is the one it was decoded from.  Every choice of the decoder and of
the encoder here depends on `op` alone, so the 256 bytes are decided with the operand bytes left open. -/
theorem decodeRoot_head (n m : Byte) :
    ∀ op : Byte, (decodeRoot op n m).all (fun i => (encode i).head? == some op) = true :=
  of_decide_eq_true rfl

/-- Every byte of OTHER_SET decodes to a root instruction that may run after DD or FD (R117, R470). -/
theorem decodeRoot_other (n m : Byte) :
    ∀ op : Byte, isOther op = true → (decodeRoot op n m).any rootOther = true :=
  of_decide_eq_true rfl

/-- What runs after a DD or FD before `op` is a root instruction whose encoding starts with `op`. -/
theorem afterPrefix_some {s : State} {op : Byte} {i : Instr} (h : s.afterPrefix op = some i) :
    rootOther i = true ∧ (encode i).head? = some op := by
  unfold State.afterPrefix at h
  split at h
  · cases h
  · obtain ⟨hd, hr⟩ := Option.filter_eq_some_iff.mp h
    have he := decodeRoot_head (s.read8 s.pc) (s.read8 (s.pc + 1)) op
    rw [show decodeRoot op _ _ = some i from hd] at he
    exact ⟨hr, by simpa using he⟩

/-- What runs: the instruction itself, an unrecognised sequence, or a root instruction after DD or FD. -/
theorem running_cases (s : State) (i : Instr) :
    (isOtherForm i = false ∧ s.running i = i) ∨
    ∃ op, (i = .ddOther op ∨ i = .fdOther op) ∧
      ((s.afterPrefix op = none ∧ (s.running i = .unrecDd op ∨ s.running i = .unrecFd op)) ∨
       s.afterPrefix op = some (s.running i)) := by
  unfold State.running
  split
  next op =>
    refine .inr ⟨op, .inl rfl, ?_⟩
    cases s.afterPrefix op <;> simp
  next op =>
    refine .inr ⟨op, .inr rfl, ?_⟩
    cases s.afterPrefix op <;> simp
  next hd hf => exact .inl ⟨isOtherForm_eq_false hd hf, rfl⟩

theorem isOtherForm_running (s : State) (i : Instr) : isOtherForm (s.running i) = false := by
  obtain ⟨hi, hr⟩ | ⟨op, -, ⟨-, hr | hr⟩ | hr⟩ := running_cases s i
  · rw [hr, hi]
  · rw [hr]; rfl
  · rw [hr]; rfl
  · exact isOtherForm_of_rootOther (afterPrefix_some hr).1

/-- An instruction that may not run after DD or FD runs only as itself. -/
theorem running_ne {s : State} {i j : Instr} (h : i ≠ j) (hj : rootOther j = false)
    (hu : Instr.unrecognised s.cfg j = false) : s.running i ≠ j := by
  rintro rfl
  obtain ⟨-, hr⟩ | ⟨op, -, ⟨-, hr | hr⟩ | hr⟩ := running_cases s i
  · exact h hr.symm
  · rw [hr] at hu; cases hu
  · rw [hr] at hu; cases hu
  · exact absurd (afterPrefix_some hr).1 (by simp [hj])

/-- An instruction of one byte runs only as itself or after DD or FD before that byte. -/
theorem running_ne_of_byte {s : State} {i j : Instr} {b : Byte} {l : List Instr} (h : i ∉ l) (hj : encode j = [b])
    (hl : [j, .ddOther b, .fdOther b] ⊆ l) : s.running i ≠ j := by
  rintro rfl
  refine h (hl ?_)
  obtain ⟨-, hr⟩ | ⟨op, hi, ⟨-, hr | hr⟩ | hr⟩ := running_cases s i
  · simp [hr]
  · rw [hr] at hj; cases hj
  · rw [hr] at hj; cases hj
  · have hb := (afterPrefix_some hr).2
    rw [hj] at hb
    obtain rfl : b = op := by simpa using hb
    obtain rfl | rfl := hi <;> simp

theorem unrecognised_of_rootOther {i : Instr} (cfg : Config) (h : rootOther i = true) :
    Instr.unrecognised cfg i = false := by
  refine unrecognised_eq_false cfg (isOtherForm_of_rootOther h) ?_ ?_ ?_ <;> rintro op rfl <;> cases h

/-- Before a byte of OTHER_SET the parameter alone decides whether the DD or FD is ignored (R470). -/
theorem afterPrefix_eq_none {s : State} {op : Byte} (h : isOther op = true) :
    s.afterPrefix op = none ↔ s.cfg.ddfdOther = .unrecognised := by
  unfold State.afterPrefix State.rootAfterPrefix
  have ho := decodeRoot_other (s.read8 s.pc) (s.read8 (s.pc + 1)) op h
  cases s.cfg.ddfdOther with
  | unrecognised => simp
  | root =>
    cases hd : decodeRoot op (s.read8 s.pc) (s.read8 (s.pc + 1)) with
    | none => rw [hd] at ho; cases ho
    | some i =>
      have hi : rootOther i = true := by rw [hd] at ho; exact ho
      simp [Option.filter, hi]

/-- A well-formed instruction and the one that runs for it end alike by the unrecognised outcome or not at all. -/
theorem unrecognised_running (s : State) {i : Instr} (hwf : i.wf = true) :
    Instr.unrecognised s.cfg (s.running i) = Instr.unrecognised s.cfg i := by
  obtain ⟨-, hr⟩ | ⟨op, hi, hr⟩ := running_cases s i
  · rw [hr]
  · have ho : isOther op = true := by obtain rfl | rfl := hi <;> exact hwf
    have hu : Instr.unrecognised s.cfg i = (s.cfg.ddfdOther == .unrecognised) := by obtain rfl | rfl := hi <;> rfl
    obtain ⟨hn, hr | hr⟩ | hr := hr
    · rw [hr, hu, (afterPrefix_eq_none ho).mp hn]; rfl
    · rw [hr, hu, (afterPrefix_eq_none ho).mp hn]; rfl
    · have hc : s.cfg.ddfdOther ≠ .unrecognised := fun hc => by simp [(afterPrefix_eq_none ho).mpr hc] at hr
      rw [unrecognised_of_rootOther _ (afterPrefix_some hr).1, hu, beq_false_of_ne hc]

/-- HALT runs as itself, and after DD or FD unless that ends by the unrecognised outcome. -/
theorem running_halt {s : State} {i : Instr} (hi : i ∈ [.halt, .ddOther 0x76, .fdOther 0x76])
    (hu : Instr.unrecognised s.cfg i ≠ true) : s.running i = .halt := by
  have hr (hc : s.cfg.ddfdOther ≠ .unrecognised) : s.afterPrefix 0x76 = some .halt := by
    unfold State.afterPrefix
    split
    · next h => exact absurd h hc
    · rfl
  obtain rfl | rfl | rfl : i = .halt ∨ i = .ddOther 0x76 ∨ i = .fdOther 0x76 := by simpa using hi
  · rfl
  all_goals
    rw [State.running, hr (by simpa [Instr.unrecognised] using hu)]
    rfl

end Sys2Proof.Machine

/-! The settled statements. -/

namespace Sys2Proof.Machine

/-! ## The statements about writers, the HALT latch and the invariant -/

/-- Settles O14: a service clears IFF1 and the latch, the halted step only the latch, and an instruction is ordinary
after its special part. -/
theorem invariantKept : Obligations.InvariantKept := by
  intro s t hs hstep
  obtain ⟨hmem, hiff, -⟩ := hs
  have hpolled : Inv s.polled := ⟨hmem, hiff, fun hl => absurd hl Bool.false_ne_true⟩
  obtain ⟨-, rfl⟩ | ⟨-, -, rfl⟩ | ⟨-, -, -, rfl⟩ | ⟨-, -, hh, he⟩ := step_cases hstep
  · rw [State.serviceNmi, takeInterrupt_eq]
    constructor <;> simp [wf_push16, hmem]
  · rw [State.serviceInt, takeInterrupt_eq]
    constructor <;> simp [wf_push16, hmem]
  · exact hpolled
  · exact (ordinary_of_exec he).inv (special_inv ((Ordinary.refl _).jump.inv hpolled) rfl hh _)

/-- Settles O18: only two special parts write F, and every ordinary operation keeps its bits 5 and 3. -/
theorem undocumentedFlagsKept : Obligations.UndocumentedFlagsKept := by
  intro i s t h hi
  have hf : (s.special (s.running i)).f = s.f :=
    special_f s (running_ne_of_byte hi (b := 0xF1) rfl (by simp)) (running_ne_of_byte hi (b := 0x08) rfl (by simp))
  exact hf ▸ (ordinary_of_exec h).flags

/-- Settles O19: each of these registers is written by the special part of the named instructions alone. -/
theorem specialRegisterWriters : Obligations.SpecialRegisterWriters := by
  intro i s t h
  have ho := ordinary_of_exec h
  refine ⟨fun hi => ?_, fun hi => ?_, fun hi => ?_, fun hi => ?_, fun hi => ?_⟩
  · exact ho.i.trans (special_i s (running_ne hi rfl rfl))
  · rw [ho.r7, special_r s (running_ne hi rfl rfl)]
  · obtain ⟨h0, h1, h2⟩ : i ≠ .im0 ∧ i ≠ .im1 ∧ i ≠ .im2 := by simpa using hi
    exact ho.im.trans (special_im s (running_ne h0 rfl rfl) (running_ne h1 rfl rfl) (running_ne h2 rfl rfl))
  · have ha := special_altAf s (running_ne_of_byte hi (s := s) rfl (by simp))
    exact ⟨ho.altAf.1.trans ha.1, ho.altAf.2.trans ha.2⟩
  · have hb := special_altBank s (running_ne hi (s := s) rfl rfl)
    simpa only [ho.altBank] using hb

/-- Settles O21: the flip-flops and the latch are written by the special parts of EI, DI, RETN and RETI alone. -/
theorem flipFlopWriters : Obligations.FlipFlopWriters := by
  intro i s t h
  have ho := ordinary_of_exec h
  refine ⟨fun hi => ?_, fun hi => ?_⟩
  · have he : s.running i ≠ .ei := running_ne_of_byte hi (b := 0xFB) rfl (by simp)
    have hd : s.running i ≠ .di := running_ne_of_byte hi (b := 0xF3) rfl (by simp)
    refine ⟨ho.iff2.trans (special_iff2 s he hd), fun hr => ?_⟩
    obtain ⟨hretn, hreti⟩ : i ≠ .retn ∧ i ≠ .reti := by simpa using hr
    exact ho.iff1.trans (special_iff1 s he hd (running_ne hretn rfl rfl) (running_ne hreti rfl rfl))
  · refine ho.eiPending.trans (special_eiPending s (hi.imp_left fun hi => ?_))
    exact running_ne_of_byte hi (b := 0xFB) rfl (by simp)

/-- Settles O20: only HALT and the unrecognised sequences have a special part that halts, and of the four cases of a
step only the two services clear the latch. -/
theorem haltLatch : Obligations.HaltLatch := by
  refine ⟨fun i s t hwf h => ?_, fun s t hh hstep => ?_⟩
  · rw [(ordinary_of_exec h).halted, special_halted s (isOtherForm_running s i), unrecognised_running s hwf]
    refine or_congr_right (or_congr_left' fun hu => ⟨fun hr => ?_, fun hi => running_halt hi hu⟩)
    by_contra hi
    exact running_ne_of_byte hi rfl (List.Subset.refl _) hr
  · rw [← acceptsInt_iff]
    obtain ⟨hn, rfl⟩ | ⟨hn, ha, rfl⟩ | ⟨hn, ha, -, rfl⟩ | ⟨-, -, hr, -⟩ := step_cases hstep
    · simp [hn, State.serviceNmi, takeInterrupt_eq]
    · simp [ha, State.serviceInt, takeInterrupt_eq]
    · simp [hn, ha, hh]
    · simp [hh] at hr

/-! ## The step and the codes -/

/-- The window a fetch reads at PC, byte by byte. -/
theorem window_getElem? (s : State) {k : Nat} (hk : k < 4) :
    [s.read8 s.pc, s.read8 (s.pc + 1), s.read8 (s.pc + 2), s.read8 (s.pc + 3)][k]? =
      some (s.read8 (s.pc + BitVec.ofNat 16 k)) := by
  interval_cases k <;> simp

/-- Settles O7: the fetch reads the bytes that decode, and a running step executes what was fetched. -/
theorem stepRunsInstruction : Obligations.StepRunsInstruction := by
  intro s i hn hi hh hd
  subst hd
  exact step_running hn hi hh

/-- Settles O8: the window at PC begins with the encoding, and therefore decodes to the instruction. -/
theorem stepRunsEncoding : Obligations.StepRunsEncoding := by
  intro s i hn hi hh hwf hb
  obtain ⟨hlen, -, h4⟩ := encodedLength i
  have hp : encode i <+: [s.read8 s.pc, s.read8 (s.pc + 1), s.read8 (s.pc + 2), s.read8 (s.pc + 3)] := by
    refine List.prefix_iff_getElem?.mpr fun k hk => ?_
    rw [window_getElem? s (by omega), ← hb k (by omega), List.getElem?_eq_getElem hk]
  obtain ⟨rest, hrest⟩ := hp
  exact stepRunsInstruction s i hn hi hh (decode4_of_encode hwf hrest.symm)

/-- A decoded JR condition is the one of the code in the opcode byte (R106). -/
theorem decode4_jrCE (cc : JrCond) (e : Byte) : decode4 (0x20 + 8 * cc.code) e 0x00 0x00 = .jrCE cc e := by
  cases cc <;> rfl

/-- Settles O27: the views by their bytes, the codes by running the tables. -/
theorem viewsCoherent : Obligations.ViewsCoherent := by
  intro s v x
  refine ⟨⟨mkWord_toNat .., mkWord_toNat .., mkWord_toNat .., mkWord_toNat ..⟩, bc_setBc .., de_setDe .., hl_setHl ..,
    af_setAf .., rfl, rfl, rfl, by decide, by decide, by decide, by decide, by decide,
    ⟨by decide, by decide, decode4_jrCE⟩, by decide, by decide⟩

end Sys2Proof.Machine

/-! The memory and the ports: a canonical memory is determined by its reads, what a write below the ROM boundary does,
and for every instruction what it does to the part of the state outside the core. -/

namespace Sys2Proof.Machine

/-! ## Canonical memories -/

namespace Memory

variable {lo lo' k : Nat} {v : Byte} {m m' rest : List Host.Cell}

/-- The parts of a canonical list's form at its first cell. -/
theorem wfFrom_cell (h : wfFrom lo ((k, v) :: rest) = true) : lo ≤ k ∧ k < size ∧ wfFrom (k + 1) rest = true := by
  simp only [wfFrom, Bool.and_eq_true, decide_eq_true_eq] at h
  obtain ⟨⟨⟨hlo, hk⟩, -⟩, hrest⟩ := h
  exact ⟨hlo, hk, hrest⟩

/-- An address below that of the first cell is not listed at all. -/
theorem get_cell_of_lt {a : Nat} (h : a < k) : get ((k, v) :: rest) a = unlisted := by
  rw [get, if_neg (Nat.ne_of_lt h), if_pos h]

/-- What follows a first cell reads alike where the whole lists do: below the cell's address it lists nothing. -/
theorem get_rest_eq {v' : Byte} {rest' : List Host.Cell} (h : wfFrom (k + 1) rest = true)
    (h' : wfFrom (k + 1) rest' = true) {a : Nat} (ha : get ((k, v) :: rest) a = get ((k, v') :: rest') a) :
    get rest a = get rest' a := by
  by_cases hk : k < a
  · rwa [get_tail hk, get_tail hk] at ha
  · rw [get_of_lt (by omega) h, get_of_lt (by omega) h']

/-- Canonical memories that read alike at every address are the same list (R71). -/
theorem eq_of_get_eq (h : wfFrom lo m = true) (h' : wfFrom lo' m' = true)
    (hget : ∀ a < size, get m a = get m' a) : m = m' := by
  induction m generalizing lo lo' m' with
  | nil =>
    cases m' with
    | nil => rfl
    | cons cell' rest' =>
      obtain ⟨-, hk', -⟩ := wfFrom_cell h'
      exact absurd (hget _ hk').symm (get_ne_unlisted h')
  | cons cell rest ih =>
    obtain ⟨k, v⟩ := cell
    obtain ⟨-, hk, hrest⟩ := wfFrom_cell h
    cases m' with
    | nil => exact absurd (hget k hk) (get_ne_unlisted h)
    | cons cell' rest' =>
      obtain ⟨k', v'⟩ := cell'
      obtain ⟨-, hk', hrest'⟩ := wfFrom_cell h'
      obtain hlt | rfl | hlt := Nat.lt_trichotomy k k'
      · exact absurd ((hget k hk).trans (get_cell_of_lt hlt)) (get_ne_unlisted h)
      · have hv : v = v' := by simpa [get] using hget k hk
        rw [hv, ih hrest hrest' fun a ha => get_rest_eq hrest hrest' (hget a ha)]
      · exact absurd ((hget k' hk').symm.trans (get_cell_of_lt hlt)) (get_ne_unlisted h')

end Memory

/-! ## Writes, pushes and pops -/

section Writes

variable {s : State}

/-- A write below the ROM boundary is ignored (R72). -/
theorem write8_of_lt {addr : Word} (v : Byte) (h : addr.toNat < s.cfg.romBoundary) : s.write8 addr v = s := by
  rw [State.write8, if_pos h]

/-- No write of the core changes a byte below the ROM boundary (R72). -/
theorem read8_write8_of_lt (hm : Memory.wf s.mem = true) {x : Word} (hx : x.toNat < s.cfg.romBoundary) {a : Word}
    {v : Byte} : (s.write8 a v).read8 x = s.read8 x := by
  rw [read8_write8 s hm, if_neg]
  rintro ⟨rfl, h⟩
  omega

/-- A pop returns what a push has stored, unless one of the two writes was ignored (R76, R77). -/
theorem popped_push16 (hm : Memory.wf s.mem = true) (v : Word) (hhi : s.cfg.romBoundary ≤ (s.sp - 1).toNat)
    (hlo : s.cfg.romBoundary ≤ (s.sp - 2).toNat) : (s.push16 v).popped = v := by
  have h1 : (s.push16 v).read8 (s.sp - 1) = hiByte v := by rw [read8_push16 s hm, if_pos ⟨rfl, hhi⟩]
  have h2 : (s.push16 v).read8 (s.sp - 2) = loByte v := by
    rw [read8_push16 s hm, if_neg fun h => sub_two_ne_sub_one s.sp h.1.symm, if_pos ⟨rfl, hlo⟩]
  rw [State.popped, push16_sp, State.read16, sub_two_add_one, h1, h2, mkWord_hiByte_loByte]

end Writes

/-! ## What an instruction does outside the core -/

/-- The parameters, the memory and the port device: the part of the state that is not the core's own. -/
def State.outside (s : State) : Config × List Host.Cell × List PortEvent × List Byte :=
  (s.cfg, s.mem, s.portLog, s.portIn)

/-- Outside the core, the second state is the first after at most two byte writes of the core (R72). -/
inductive Stores (s t : State) : Prop
  | none (h : t.outside = s.outside)
  | one {a : Word} {v : Byte} (h : t.outside = (s.write8 a v).outside)
  | two {a b : Word} {v w : Byte} (h : t.outside = ((s.write8 a v).write8 b w).outside)

section Stores

variable {s t : State}

theorem outside_wait {k : Nat} : (s.wait k).outside = s.outside := rfl

theorem outside_setReg {q : Reg8} {v : Byte} : (s.setReg q v).outside = s.outside := by
  cases q <;> rfl

theorem outside_toReg {q : Reg8} {p : Byte × Byte} : (s.toReg q p).outside = s.outside := outside_setReg (q := q)

theorem outside_setPair {p : Pair} {v : Word} : (s.setPair p v).outside = s.outside := by
  cases p <;> rfl

theorem outside_setStackPair {q : StackPair} {v : Word} : (s.setStackPair q v).outside = s.outside := by
  cases q <;> rfl

theorem outside_blockIoEnd {step : Word} : (s.blockIoEnd step).outside = s.outside := by
  simp [State.outside, State.blockIoEnd]

theorem outside_write8 (h : t.outside = s.outside) (a : Word) (v : Byte) :
    (t.write8 a v).outside = (s.write8 a v).outside := by
  simp only [State.outside, Prod.mk.injEq] at h
  obtain ⟨hcfg, hmem, hlog, hin⟩ := h
  simp only [State.outside, State.write8, hcfg, hmem, hlog, hin]

namespace Stores

/-- The relation speaks only of what is outside the core. -/
theorem congr {s' t' : State} (h : Stores s t) (hs : s'.outside = s.outside) (ht : t'.outside = t.outside) :
    Stores s' t' := by
  cases h with
  | none h => exact .none (ht.trans (h.trans hs.symm))
  | one h => exact .one (ht.trans (h.trans (outside_write8 hs ..).symm))
  | two h => exact .two (ht.trans (h.trans (outside_write8 (outside_write8 hs ..) ..).symm))

theorem setReg {q : Reg8} {v : Byte} (h : Stores s t) : Stores s (t.setReg q v) := h.congr rfl outside_setReg

theorem jump {target : Word} (h : Stores s t) : Stores s (t.jump target) := h.congr rfl rfl

theorem wait {k : Nat} (h : Stores s t) : Stores s (t.wait k) := h.congr rfl outside_wait

theorem spend {rule k : Nat} (h : Stores s t) : Stores s (t.spend rule k) := h.wait

theorem spendSecond {rule k : Nat} (h : Stores s t) : Stores s (t.spendSecond rule k) := h.wait

theorem push16 {v : Word} : Stores s (s.push16 v) := two rfl

theorem call {target : Word} : Stores s (s.call target) := push16.jump

theorem takeInterrupt {vector : State → Word} {iff2 : Bool} : Stores s (s.takeInterrupt vector iff2) :=
  (push16 (v := s.pc)).congr rfl (by simp [State.outside, takeInterrupt_eq])

theorem repeatIf {again : Bool} {rule : Nat} (h : Stores s t) : Stores s (t.repeatIf again rule) := by
  cases again
  · exact h.spendSecond
  · exact h.jump.spend

theorem blockLoad {step : Word} : Stores s (s.blockLoad step) :=
  one (a := s.de) (v := s.read8 s.hl) (by simp [State.outside, State.blockLoad])

theorem blockCompare {step : Word} : Stores s (s.blockCompare step) :=
  none (by simp [State.outside, State.blockCompare])

theorem blockIn {step : Word} : Stores (s.ioRead s.bc) (s.blockIn step) := one outside_blockIoEnd

theorem blockOut {step : Word} :
    Stores (s.ioWrite (mkWord (s.b - 1) s.c) (s.read8 s.hl)) (s.blockOut step) := none outside_blockIoEnd

theorem cfg (h : Stores s t) : t.cfg = s.cfg := by
  cases h with
  | none h | one h | two h => exact congrArg (·.1) h

theorem portLog (h : Stores s t) : t.portLog = s.portLog := by
  cases h with
  | none h | one h | two h => exact congrArg (·.2.2.1) h

theorem portIn (h : Stores s t) : t.portIn = s.portIn := by
  cases h with
  | none h | one h | two h => exact congrArg (·.2.2.2) h

/-- A byte below the ROM boundary reads as before. -/
theorem rom (h : Stores s t) (hm : Memory.wf s.mem = true) {x : Word} (hx : x.toNat < s.cfg.romBoundary) :
    t.read8 x = s.read8 x := by
  cases h with
  | none h => exact read8_congr (congrArg (·.2.1) h) x
  | one h => rw [read8_congr (congrArg (·.2.1) h), read8_write8_of_lt hm hx]
  | two h =>
    rw [read8_congr (congrArg (·.2.1) h), read8_write8_of_lt (wf_write8 s hm ..) hx, read8_write8_of_lt hm hx]

end Stores

end Stores

/-- The port access of an instruction; a DD or FD before a byte of OTHER_SET has that of the instruction that runs (R79,
R80). -/
def State.portAccess (s : State) : Instr → State
  | .inAIndN n => s.ioRead (s.portAN n)
  | .inRIndC _ | .ini | .inir | .ind | .indr => s.ioRead s.bc
  | .outIndNA n => s.ioWrite (s.portAN n) s.a
  | .outIndCR q => s.ioWrite s.bc (s.reg q)
  | .outi | .otir | .outd | .otdr => s.ioWrite (mkWord (s.b - 1) s.c) (s.read8 s.hl)
  | _ => s

open Stores in
/-- After its port access, an instruction does nothing outside the core but store at most two bytes.  (`cases hi` leaves
out DD and FD before OTHER_SET.) -/
theorem stores_exec {i : Instr} {s t : State} (hi : isOtherForm i = false) (h : exec i s = .next t) :
    Stores (s.portAccess i) t := by
  cases i with cases hi <;> cases h
  | ldRR | ldRN | ldRIndHl | setBR | resBR | ldRIndIxD | ldRIndIyD => exact spend (none outside_setReg)
  | incR | decR | rlcR | rrcR | rlR | rrR | slaR | sraR | sllR | srlR | inRIndC =>
    exact spend (none outside_toReg)
  | ldDdNn | incSs | decSs | ldDdIndNn => exact spend (none outside_setPair)
  | popQq => exact spend (none (outside_setStackPair (s := s.pop16)))
  | ldIndHlR | ldIndHlN | ldIndBcA | ldIndDeA | ldIndNnA | setBIndHl | resBIndHl
  | ldIndIxDR | ldIndIxDN | resBIndIxD | setBIndIxD | ldIndIyDR | ldIndIyDN | resBIndIyD | setBIndIyD
  | incIndHl | incIndIxD | incIndIyD | decIndHl | decIndIxD | decIndIyD
  | rlcIndHl | rrcIndHl | rlIndHl | rrIndHl | slaIndHl | sraIndHl | sllIndHl | srlIndHl
  | rlcIndIxD | rrcIndIxD | rlIndIxD | rrIndIxD | slaIndIxD | sraIndIxD | sllIndIxD | srlIndIxD
  | rlcIndIyD | rrcIndIyD | rlIndIyD | rrIndIyD | slaIndIyD | sraIndIyD | sllIndIyD | srlIndIyD
  | rrd | rld => exact spend (one rfl)
  | resBIndIxDR | setBIndIxDR | resBIndIyDR | setBIndIyDR | rotIndIxDR | rotIndIyDR =>
    exact spend (setReg (one rfl))
  | ldIndNnHl | ldIndNnDd | ldIndNnIx | ldIndNnIy | exIndSpHl | exIndSpIx | exIndSpIy => exact spend (two rfl)
  | pushQq | pushIx | pushIy => exact spend push16
  | callNn | rstP => exact spend call
  | ldi | ldd => exact spend blockLoad
  | ldir | lddr => exact repeatIf blockLoad
  | cpi | cpd => exact spend blockCompare
  | cpir | cpdr => exact repeatIf blockCompare
  | ini | ind => exact spend blockIn
  | inir | indr => exact repeatIf blockIn
  | outi | outd => exact spend blockOut
  | otir | otdr => exact repeatIf blockOut
  | jpCNn => exact spend (none (by split <;> rfl))
  | jrCE | djnzE | retC => split <;> exact wait (none rfl)
  | callCNn => split; exacts [spend call, spendSecond (none rfl)]
  | unrecEd | unrecDd | unrecFd => exact none rfl
  | _ => exact spend (none rfl)

/-! ### DD and FD before OTHER_SET -/

/-- The port access of an instruction does not depend on PC. -/
theorem outside_portAccess_jump (s : State) (p : Word) (i : Instr) :
    ((s.jump p).portAccess i).outside = (s.portAccess i).outside := by
  unfold State.portAccess
  split <;> rfl

theorem withPrefixCost_next {o : Out} {t : State} (h : withPrefixCost o = .next t) :
    ∃ v, o = .next v ∧ t = v.wait 4 := by
  cases o with cases h
  | next v => exact ⟨v, rfl, rfl⟩

/-- Where no root instruction runs after DD or FD, nothing happens outside the core: it halts (R470). -/
theorem execOther_of_none {s : State} {op : Byte} (h : s.afterPrefix op = none) :
    ∃ t, execOther op s = .next t ∧ t.outside = s.outside := by
  unfold State.afterPrefix at h
  unfold execOther
  cases hc : s.cfg.ddfdOther with
  | unrecognised => exact ⟨_, rfl, rfl⟩
  | root =>
    cases hi : s.rootAfterPrefix op with
    | none => exact ⟨_, rfl, rfl⟩
    | some i =>
      have hr : rootOther i = false := by simpa [hc, hi, Option.filter] using h
      refine ⟨(s.jump (s.pc + BitVec.ofNat 16 (i.length - 1))).unrecognised.wait 4, ?_, outside_wait⟩
      simp only [execRootOther_eq, hr, Bool.false_eq_true, if_false]
      rfl

/-- Where a root instruction runs after DD or FD, it does so with PC past its operand bytes (R470). -/
theorem execOther_of_some {s : State} {op : Byte} {i : Instr} (h : s.afterPrefix op = some i) :
    ∃ p, execOther op s = withPrefixCost (exec i (s.jump p)) := by
  unfold State.afterPrefix at h
  unfold execOther
  cases hc : s.cfg.ddfdOther with
  | unrecognised => simp [hc] at h
  | root =>
    obtain ⟨hi, hr⟩ : s.rootAfterPrefix op = some i ∧ rootOther i = true := by
      simpa [hc, Option.filter_eq_some_iff] using h
    exact ⟨_, by simp only [hi, execRootOther_eq, hr, if_true]; rfl⟩

theorem stores_execOther {s t : State} {op : Byte} {u : Instr} (hu : s.portAccess u = s)
    (h : execOther op s = .next t) : Stores (s.portAccess ((s.afterPrefix op).getD u)) t := by
  cases ha : s.afterPrefix op with
  | none =>
    obtain ⟨t', ht', ho⟩ := execOther_of_none ha
    obtain rfl := Host.Outcome.next.inj (ht'.symm.trans h)
    exact hu.symm ▸ .none ho
  | some i =>
    obtain ⟨p, hp⟩ := execOther_of_some ha
    obtain ⟨v, hv, rfl⟩ := withPrefixCost_next (hp.symm.trans h)
    have hs := stores_exec (isOtherForm_of_rootOther (afterPrefix_some ha).1) hv
    exact hs.wait.congr (outside_portAccess_jump s p i).symm rfl

/-- After the port access of the instruction that runs, every instruction does nothing outside the core but store at
most two bytes. -/
theorem stores_exec_running {i : Instr} {s t : State} (h : exec i s = .next t) :
    Stores (s.portAccess (s.running i)) t := by
  unfold State.running
  split
  · exact stores_execOther rfl h
  · exact stores_execOther rfl h
  · next hd hf => exact stores_exec (isOtherForm_eq_false hd hf) h

/-! ### The port access of the instruction that runs -/

theorem portAccess_cfg (s : State) (i : Instr) : (s.portAccess i).cfg = s.cfg := by
  unfold State.portAccess
  split <;> rfl

theorem portAccess_mem (s : State) (i : Instr) : (s.portAccess i).mem = s.mem := by
  unfold State.portAccess
  split <;> rfl

theorem exec_cfg {i : Instr} {s t : State} (h : exec i s = .next t) : t.cfg = s.cfg :=
  (stores_exec_running h).cfg.trans (portAccess_cfg ..)

/-- No instruction changes a byte below the ROM boundary (R72). -/
theorem exec_rom {i : Instr} {s t : State} (h : exec i s = .next t) (hm : Memory.wf s.mem = true) {x : Word}
    (hx : x.toNat < s.cfg.romBoundary) : t.read8 x = s.read8 x := by
  have hmem := portAccess_mem s (s.running i)
  rw [(stores_exec_running h).rom (hmem ▸ hm) (portAccess_cfg s _ ▸ hx), read8_congr hmem]

/-- A port access adds one event (R79, R80), and what is no port access adds none. -/
theorem portAccess_portLog (s : State) (i : Instr) :
    (s.portAccess i).portLog = s.portLog ∨ ∃ x, (s.portAccess i).portLog = s.portLog ++ [x] := by
  unfold State.portAccess
  split <;> simp

/-- Only the port instructions access a port. -/
theorem portAccess_of_ne {s : State} {i : Instr} (hn : ∀ n, i ≠ .inAIndN n ∧ i ≠ .outIndNA n)
    (hc : ∀ q, i ≠ .inRIndC q ∧ i ≠ .outIndCR q)
    (hb : i ∉ [.ini, .inir, .ind, .indr, .outi, .otir, .outd, .otdr]) : s.portAccess i = s := by
  unfold State.portAccess
  split <;> simp_all

/-- Of the instructions that run after DD or FD, only IN A,(n) and OUT (n),A access a port. -/
theorem portAccess_of_head {s : State} {i : Instr} (hr : rootOther i = true) (hi : (encode i).head? ≠ some 0xDB)
    (ho : (encode i).head? ≠ some 0xD3) : s.portAccess i = s := by
  refine portAccess_of_ne (fun n => ⟨?_, ?_⟩) (fun q => ⟨?_, ?_⟩) ?_
  · rintro rfl; exact hi rfl
  · rintro rfl; exact ho rfl
  · rintro rfl; cases hr
  · rintro rfl; cases hr
  · intro hb
    fin_cases hb <;> cases hr

/-- Only a port instruction, or IN A,(n) or OUT (n),A after DD or FD, leads to a port access. -/
theorem portAccess_running {s : State} {i : Instr} (hn : ∀ n, i ≠ .inAIndN n ∧ i ≠ .outIndNA n)
    (hc : ∀ q, i ≠ .inRIndC q ∧ i ≠ .outIndCR q)
    (hl : i ∉ [.ini, .inir, .ind, .indr, .outi, .otir, .outd, .otdr, .ddOther 0xDB, .ddOther 0xD3, .fdOther 0xDB,
      .fdOther 0xD3]) :
    s.portAccess (s.running i) = s := by
  obtain ⟨-, hr⟩ | ⟨op, hi, ⟨-, hr | hr⟩ | hr⟩ := running_cases s i
  · rw [hr]
    exact portAccess_of_ne hn hc fun hb => hl (List.mem_append_left _ hb)
  · rw [hr]; rfl
  · rw [hr]; rfl
  · obtain ⟨hro, hop⟩ := afterPrefix_some hr
    have hbyte {b : Byte} (hb : (encode (s.running i)).head? = some b) : i = .ddOther b ∨ i = .fdOther b :=
      Option.some.inj (hop.symm.trans hb) ▸ hi
    refine portAccess_of_head hro (fun hb => hl ?_) (fun hb => hl ?_)
    · obtain rfl | rfl := hbyte hb <;> simp
    · obtain rfl | rfl := hbyte hb <;> simp

end Sys2Proof.Machine

/-! The settled statements about memory and the ports. -/

namespace Sys2Proof.Machine

/-- Settles O17: a service and an instruction reach memory and the parameters by the core's own byte writes alone. -/
theorem romAndParametersFixed : Obligations.RomAndParametersFixed := by
  intro s t hm hstep
  have hservice (vector : State → Word) (iff2 : Bool) : Stores s (s.polled.takeInterrupt vector iff2) :=
    Stores.takeInterrupt.congr (s := s.polled) rfl rfl
  obtain ⟨-, rfl⟩ | ⟨-, -, rfl⟩ | ⟨-, -, -, rfl⟩ | ⟨-, -, -, he⟩ := step_cases hstep
  · exact ⟨(hservice ..).cfg, fun a => (hservice ..).rom hm⟩
  · exact ⟨(hservice ..).cfg, fun a => (hservice ..).rom hm⟩
  · exact ⟨rfl, fun a _ => rfl⟩
  · exact ⟨exec_cfg (s := s.polled.past _) he, fun a => exec_rom (s := s.polled.past _) he hm⟩

/-- Settles O22: the port access of the instruction that runs is the only one. -/
theorem portEventsInOrder : Obligations.PortEventsInOrder := by
  intro i s t h
  have hs := stores_exec_running h
  refine ⟨hs.portLog ▸ portAccess_portLog s _, fun hn hc hl => ?_⟩
  rw [portAccess_running hn hc hl] at hs
  exact ⟨hs.portLog, hs.portIn⟩

/-- Settles O23: the laws of a byte and a word write, and the two bytes of a word read. -/
theorem memoryReadAfterWrite : Obligations.MemoryReadAfterWrite := by
  intro s addr hm
  exact ⟨fun v => ⟨storedByte_of_mem hm rfl, write8_of_lt v⟩, fun v => storedWord_of_mem hm rfl, read16_toNat addr⟩

/-- Settles O24: canonical lists are determined by their reads, and a write keeps the form. -/
theorem memoryCanonical : Obligations.MemoryCanonical :=
  ⟨fun _ _ h h' hget => Memory.eq_of_get_eq h h' hget, fun s addr v hm => wf_write8 s hm addr v⟩

/-- Settles O25: a push is a word store at the new SP, and the pop after it reads that word back. -/
theorem pushThenPop : Obligations.PushThenPop := by
  intro s v hm
  refine ⟨rfl, storedWord_of_push hm rfl, read16_toNat s.sp, rfl, fun hhi hlo => ?_⟩
  exact ⟨popped_push16 hm v hhi hlo, BitVec.sub_add_cancel s.sp 2, fun a => rfl⟩

end Sys2Proof.Machine

/-! The other direction: the instruction the decoder reads is well-formed and its encoding is the bytes it was read
from.  Every instruction a table gives depends on the opcode byte alone, its operand bytes only being copied, so a table
is compared with the encoder byte by byte with the operand bytes left open. -/

namespace Sys2Proof

/-! ## A table by its opcode byte -/

/-- The 256 values of a function of a byte, laid out as an opcode table: 16 rows of 16. -/
def grid {α : Type} (f : Byte → α) : List (List α) :=
  (List.finRange 16).map fun row : Fin 16 =>
    (List.finRange 16).map fun col : Fin 16 => f (BitVec.ofNat 8 (16 * row.val + col.val))

/-- Two functions of a byte are equal when their tables are; with operands left open, `rfl` compares the tables. -/
theorem eq_of_grid_eq {α : Type} {f g : Byte → α} (h : grid f = grid g) (op : Byte) : f op = g op := by
  have hrow : op.toNat / 16 < 16 := by have := op.isLt; omega
  have hcol : op.toNat % 16 < 16 := by omega
  have hcell := List.map_inj_left.mp (List.map_inj_left.mp h ⟨_, hrow⟩ (List.mem_finRange _)) ⟨_, hcol⟩
    (List.mem_finRange _)
  rwa [Nat.div_add_mod, BitVec.ofNat_toNat, BitVec.setWidth_eq] at hcell

/-- Any two bytes are the bytes of a word. -/
theorem exists_word (lo hi : Byte) : ∃ nn : Word, loByte nn = lo ∧ hiByte nn = hi :=
  ⟨mkWord hi lo, loByte_mkWord hi lo, hiByte_mkWord hi lo⟩

/-! ## The classes of second bytes (R116, R117) -/

theorem isUnrecognisedEd_iff {op : Byte} : isUnrecognisedEd op = true ↔ op ∉ edSet := by
  simp [isUnrecognisedEd]

theorem isUnrecognisedIndex_iff {op : Byte} : isUnrecognisedIndex op = true ↔ op ∈ unrecognisedSet :=
  List.contains_iff_mem

theorem isOther_iff {op : Byte} : isOther op = true ↔ op ≠ 0xCB ∧ op ∉ indexSet ∧ op ∉ unrecognisedSet := by
  simp [isOther, and_assoc]

theorem exists_decodeIndexSet (x : Index) {op : Byte} (n m : Byte) (h : op ∈ indexSet) :
    ∃ i, decodeIndexSet x op n m = some i := by
  have hn := decodeIndexSet_isNone n m x op
  rwa [List.contains_iff_mem.mpr h, Bool.not_true, Option.isNone_eq_false_iff, Option.isSome_iff_exists] at hn

/-! ## The decoded instruction starts the bytes

Where a table has both byte and word operands, its two operand bytes are named as those of a word `nn`, so that the word
operand is `nn` itself and a row with either kind is compared by computation. -/

/-- `i` is well-formed and the bytes `w` start with its encoding. -/
def Instr.Starts (i : Instr) (w : List Byte) : Prop := i.wf = true ∧ encode i = w.take i.length

/-- Both parts as one equation, which a table is compared by. -/
theorem starts_iff {i : Instr} {w : List Byte} : i.Starts w ↔ (i.wf, encode i) = (true, w.take i.length) :=
  Prod.mk_inj.symm

/-- The same for a table that gives no instruction to some bytes. -/
theorem starts_of_map_eq {o : Option Instr} {w : List Byte}
    (h : o.map (fun i => (i.wf, encode i)) = o.map fun i => (true, w.take i.length)) : ∀ i ∈ o, i.Starts w := by
  rintro i rfl
  exact starts_iff.mpr (Option.some.inj h)

theorem decodeRoot_starts (op n m b : Byte) : ∀ i ∈ decodeRoot op n m, i.Starts [op, n, m, b] := by
  obtain ⟨nn, rfl, rfl⟩ := exists_word n m
  refine starts_of_map_eq ?_
  revert op
  unfold decodeRoot
  rw [mkWord_hiByte_loByte]
  exact eq_of_grid_eq rfl

theorem decodeCb_starts (op n m : Byte) : (decodeCb op).Starts [0xCB, op, n, m] := by
  rw [starts_iff]
  revert op
  exact eq_of_grid_eq rfl

theorem decodeEd_starts (op n m : Byte) : (decodeEd op n m).Starts [0xED, op, n, m] := by
  obtain ⟨nn, rfl, rfl⟩ := exists_word n m
  rw [starts_iff]
  revert op
  unfold decodeEd
  rw [mkWord_hiByte_loByte]
  exact eq_of_grid_eq rfl

/-- The prefix byte that selects an index register (R430). -/
def Index.prefixByte : Index → Byte
  | .ix => 0xDD
  | .iy => 0xFD

theorem decodeIndexCb_starts (x : Index) (d op : Byte) : (decodeIndexCb x d op).Starts [x.prefixByte, 0xCB, d, op] := by
  rw [starts_iff]
  revert op
  cases x <;> exact eq_of_grid_eq rfl

theorem decodeIndexSet_starts (x : Index) (op n m : Byte) :
    ∀ i ∈ decodeIndexSet x op n m, i.Starts [x.prefixByte, op, n, m] := by
  obtain ⟨nn, rfl, rfl⟩ := exists_word n m
  refine starts_of_map_eq ?_
  revert op
  unfold decodeIndexSet
  rw [mkWord_hiByte_loByte]
  cases x <;> exact eq_of_grid_eq rfl

theorem decodeIndex_starts (x : Index) (op n m : Byte) : (decodeIndex x op n m).Starts [x.prefixByte, op, n, m] := by
  by_cases hcb : op = 0xCB
  · subst hcb
    exact decodeIndexCb_starts x n m
  by_cases hi : op ∈ indexSet
  · obtain ⟨i, hd⟩ := exists_decodeIndexSet x n m hi
    simp only [decodeIndex, hcb, hd, if_false]
    exact decodeIndexSet_starts x op n m i hd
  by_cases hu : op ∈ unrecognisedSet
  · have hwf := isUnrecognisedIndex_iff.mpr hu
    rw [decodeIndex_unrecognised x n m hwf]
    cases x <;> exact ⟨hwf, rfl⟩
  · have hwf := isOther_iff.mpr ⟨hcb, hi, hu⟩
    rw [decodeIndex_other x n m hwf]
    cases x <;> exact ⟨hwf, rfl⟩

/-- The bytes with no root instruction are the four prefixes (R113). -/
theorem decodeRoot_eq_none (n m : Byte) {op : Byte} (h : decodeRoot op n m = none) :
    op = 0xCB ∨ op = 0xDD ∨ op = 0xED ∨ op = 0xFD := by
  have hn : ∀ op, (decodeRoot op n m).isNone = true → op = 0xCB ∨ op = 0xDD ∨ op = 0xED ∨ op = 0xFD :=
    of_decide_eq_true rfl
  exact hn op (by rw [h]; rfl)

/-- The prefix multiplexer gives the instruction that the bytes start with, whichever table it selects (R113). -/
theorem decode4_starts (b0 b1 b2 b3 : Byte) : (decode4 b0 b1 b2 b3).Starts [b0, b1, b2, b3] := by
  unfold decode4
  cases hd : decodeRoot b0 b1 b2 with
  | some i => exact decodeRoot_starts b0 b1 b2 b3 i hd
  | none =>
    obtain rfl | rfl | rfl | rfl := decodeRoot_eq_none b1 b2 hd
    · exact decodeCb_starts b1 b2 b3
    · exact decodeIndex_starts .ix b1 b2 b3
    · exact decodeEd_starts b1 b2 b3
    · exact decodeIndex_starts .iy b1 b2 b3

/-- Four bytes decode to the one well-formed instruction whose encoding they start with. -/
theorem decode4_eq_iff {i : Instr} {b0 b1 b2 b3 : Byte} :
    decode4 b0 b1 b2 b3 = i ↔ i.Starts [b0, b1, b2, b3] := by
  refine ⟨fun h => h ▸ decode4_starts b0 b1 b2 b3, fun ⟨hwf, he⟩ => ?_⟩
  exact decode4_of_encode (rest := [b0, b1, b2, b3].drop i.length) hwf (by rw [he, List.take_append_drop])

/-- A two-byte instruction is decoded from its prefix and second byte alone. -/
theorem decode4_eq_iff_of_two {i : Instr} {p op b0 b1 b2 b3 : Byte} (he : encode i = [p, op]) :
    decode4 b0 b1 b2 b3 = i ↔ b0 = p ∧ b1 = op ∧ i.wf = true := by
  have hl : i.length = 2 := by rw [← (encodedLength i).1, he]; rfl
  rw [decode4_eq_iff, Instr.Starts, he, hl]
  constructor
  · rintro ⟨hwf, ⟨⟩⟩
    exact ⟨rfl, rfl, hwf⟩
  · rintro ⟨rfl, rfl, hwf⟩
    exact ⟨hwf, rfl⟩

/-! ## Lists of bytes -/

/-- A list that starts with at most four given bytes still does so when it is cut to four, or filled up with zeros. -/
theorem prefix_window {p bs : List Byte} (h : p <+: bs) (hp : p.length ≤ 4) :
    p <+: [bs.getD 0 0, bs.getD 1 0, bs.getD 2 0, bs.getD 3 0] := by
  refine List.prefix_iff_getElem?.mpr fun k hk => ?_
  have hwindow : [bs.getD 0 0, bs.getD 1 0, bs.getD 2 0, bs.getD 3 0][k]? = some (bs.getD k 0) := by
    have : k < 4 := by omega
    interval_cases k <;> rfl
  rw [hwindow, List.getD_eq_getElem?_getD, List.prefix_iff_getElem?.mp h k hk, Option.getD_some]

/-- A list long enough for the instruction its window decodes to is split behind that instruction (R119). -/
theorem decode_eq_ok {bs : List Byte} {i : Instr}
    (hd : decode4 (bs.getD 0 0) (bs.getD 1 0) (bs.getD 2 0) (bs.getD 3 0) = i) (hl : i.length ≤ bs.length) :
    decode bs = .ok (i, bs.drop i.length) := by
  obtain ⟨-, h1, -⟩ := encodedLength i
  have hne : bs.isEmpty = false := by
    rw [List.isEmpty_eq_false_iff, ← List.length_pos_iff]
    omega
  simp only [decode, hne, hd, hl, if_true, Bool.false_eq_true, if_false]

/-! ## The settled statements about the encoding -/

/-- Settles O4: the window the decoder reads starts with the encoding, and what it drops is the encoding's length. -/
theorem encodeThenDecode : Obligations.EncodeThenDecode := by
  intro i rest hwf
  obtain ⟨hlen, -, h4⟩ := encodedLength i
  obtain ⟨rest', hw⟩ := prefix_window (List.prefix_append (encode i) rest) (by omega)
  rw [decode_eq_ok (decode4_of_encode hwf hw.symm) (by simp [hlen]), ← hlen, List.drop_left]

/-- Settles O5: the window starts with the encoding of the instruction read from it. -/
theorem decodeThenEncode : Obligations.DecodeThenEncode := by
  intro b0 b1 b2 b3
  obtain ⟨hwf, he⟩ := decode4_starts b0 b1 b2 b3
  obtain ⟨-, h1, h4⟩ := encodedLength (decode4 b0 b1 b2 b3)
  exact ⟨hwf, h1, h4, he⟩

/-- Settles O6: a window decodes to one of these forms exactly when it starts with the form's two bytes and the form is
well-formed. -/
theorem unrecognisedExactly : Obligations.UnrecognisedExactly := by
  intro b0 b1 b2 b3 op
  refine ⟨?_, ?_, ?_, ?_, ?_⟩ <;> rw [decode4_eq_iff_of_two rfl, Instr.wf]
  · rw [isUnrecognisedEd_iff]
  · rw [isUnrecognisedIndex_iff]
  · rw [isUnrecognisedIndex_iff]
  · rw [isOther_iff]
  · rw [isOther_iff]

/-- Settles O26: both addresses add the sign-extended byte. -/
theorem signedDisplacements : Obligations.SignedDisplacements := by
  intro s x d
  exact ⟨add_sext16_toNat (s.index x) d, add_sext16_toNat s.pc d⟩

/-- Settles O3, by running the decoder on the ten words. -/
theorem sampleDecodings : Obligations.SampleDecodings := by
  unfold Obligations.SampleDecodings
  decide

end Sys2Proof

/-! The arithmetic, logic, rotate and bit-test families: DAA and the conditions in exact arithmetic, and one rule for each
effect these families share.  Every rule takes the form of the meaning as a hypothesis, so an instruction meets it by
`rfl`. -/

namespace Sys2Proof.Machine

/-! ## DAA (R165) -/

theorem and_0F_toNat (v : Byte) : (v &&& 0x0F).toNat = v.toNat % 16 := by
  rw [BitVec.toNat_and]
  exact Nat.and_two_pow_sub_one_eq_mod _ 4

/-- The two parts of a decimal correction share no bit, so their union is their sum. -/
theorem bitIf_06_or_60_toNat (x y : Bool) :
    (bitIf x 0x06 ||| bitIf y 0x60).toNat = (if x = true then 6 else 0) + (if y = true then 0x60 else 0) := by
  revert x y
  decide

theorem daaCorrection_toNat (f a : Byte) :
    (daaCorrection f a).toNat =
      (if f[4] = true ∨ 9 < a.toNat % 16 then 6 else 0) + (if f[0] = true ∨ 0x99 < a.toNat then 0x60 else 0) := by
  rw [daaCorrection, bitIf_06_or_60_toNat, and_0F_toNat]
  simp only [flagH, flagC, Bool.or_eq_true, decide_eq_true_eq, gt_iff_lt]
  rfl

/-- `Daa`: the corrected A, and the flags of R165. -/
theorem daa8_spec (f a : Byte) :
    ((daa8 f a).1.toNat : Int) =
      (if f[1] = true then (a.toNat : Int) - (daaCorrection f a).toNat else a.toNat + (daaCorrection f a).toNat) % 256 ∧
    FlagsAre f (daa8 f a).2 (daa8 f a).1[7] ((daa8 f a).1 == 0)
      (if f[1] = true then f[4] && decide (a.toNat % 16 < 6) else decide (9 < a.toNat % 16))
      (parity (daa8 f a).1) f[1] (f[0] || decide (0x99 < a.toNat)) := by
  constructor
  · have hc := (daaCorrection f a).isLt
    have hr : (daa8 f a).1 = if f[1] = true then a - daaCorrection f a else a + daaCorrection f a := rfl
    rw [hr]
    split
    · rw [BitVec.toNat_sub]
      omega
    · rw [BitVec.toNat_add]
      omega
  · simp only [daa8, and_0F_toNat]
    simp [FlagsAre, maskXY, maskN, flagH, flagN, flagC]

/-! ## Parity and conditions (R151, R166) -/

theorem parity_eq_xor (v : Byte) :
    parity v = !(v[0] ^^ v[1] ^^ v[2] ^^ v[3] ^^ v[4] ^^ v[5] ^^ v[6] ^^ v[7]) := by
  revert v
  decide

section Masks

variable (f : Byte)

theorem flagS_eq_mask : flagS f = (f &&& maskS != 0) := by revert f; decide
theorem flagZ_eq_mask : flagZ f = (f &&& maskZ != 0) := by revert f; decide
theorem flagPV_eq_mask : flagPV f = (f &&& maskPV != 0) := by revert f; decide
theorem flagC_eq_mask : flagC f = (f &&& maskC != 0) := by revert f; decide

end Masks

/-- A condition compares the flag its mask selects with the low bit of its code (R166). -/
theorem condHolds_eq_mask (cc : Cond) (f : Byte) :
    condHolds cc f =
      ((f &&& [maskZ, maskC, maskPV, maskS].getD (cc.code.toNat / 2) 0 != 0) == (cc.code.toNat % 2 == 1)) := by
  cases cc with
  | nz | z => simp [condHolds, Cond.code, flagZ_eq_mask]
  | nc | c => simp [condHolds, Cond.code, flagC_eq_mask]
  | po | pe => simp [condHolds, Cond.code, flagPV_eq_mask]
  | p | m => simp [condHolds, Cond.code, flagS_eq_mask]

/-! ## What each family answers -/

section Effects

variable {s : State} {i : Instr} {v : Byte} {cin : Bool} {rule k : Nat}

theorem adds_of_exec (h : exec i s = .next ((s.toAcc (add8 s.f s.a v cin)).spend rule k)) :
    Adds s i v cin (s.cost rule false k) := by
  obtain ⟨hsum, hflags⟩ := add8_spec s.f s.a v cin
  exact ⟨_, h, rfl, hsum, hflags, credited_spend rfl rfl rule k⟩

/-- A takes the result when `toA`; CP keeps A (R168). -/
theorem subtracts_of_exec {toA : Bool}
    (h : let p := sub8 s.f s.a v cin
      exec i s = .next ((if toA then s.toAcc p else s.toFlags p).spend rule k)) :
    Subtracts s i v cin toA (s.cost rule false k) := by
  obtain ⟨hdiff, hflags⟩ := sub8_spec s.f s.a v cin
  cases toA with
  | true => exact ⟨_, _, h, rfl, hdiff, hflags, credited_spend rfl rfl rule k⟩
  | false => exact ⟨_, _, h, rfl, hdiff, hflags, credited_spend rfl rfl rule k⟩

theorem logics_of_exec {r : Byte} {hf : Bool} (h : exec i s = .next ((s.toAcc (r, logicFlags s.f r hf)).spend rule k)) :
    Logics s i r hf (s.cost rule false k) :=
  ⟨_, h, rfl, logicFlags_spec s.f r hf, credited_spend rfl rfl rule k⟩

theorem testsBit_of_exec {b : Fin 8} (h : exec i s = .next ((s.testBit v b).spend rule k)) :
    TestsBit s i b v (s.cost rule false k) :=
  ⟨_, _, _, h, rfl, bitTest_spec s.f v b s.freeS s.freeNext, credited_spend rfl rfl rule k⟩

/-! ### A register and F -/

/-- A result in a register changes the registers A to L, F and R at most. -/
theorem toReg_spend_frame (s : State) (q : Reg8) (p : Byte × Byte) (rule k : Nat) :
    let t := (s.toReg q p).spend rule k
    t = { s with a := t.a, b := t.b, c := t.c, d := t.d, e := t.e, h := t.h, l := t.l, f := t.f, r := t.r } := by
  cases q <;> rfl

theorem onlyReg_toReg_spend (s : State) (q : Reg8) (p : Byte × Byte) (rule k : Nat) :
    OnlyReg s ((s.toReg q p).spend rule k) q p.1 :=
  onlyReg_setReg q p.1

theorem changesReg_of_exec {q : Reg8} {p : Byte × Byte} {flags : Byte → Byte → Byte → Byte → Prop}
    (hflags : flags s.f p.2 (s.reg q) p.1) (h : exec i s = .next ((s.toReg q p).spend rule k)) :
    ChangesReg s i q p.1 flags (s.cost rule false k) :=
  ⟨_, h, toReg_spend_frame s q p rule k, onlyReg_toReg_spend s q p rule k, by simpa using hflags,
    credited_spend (by simp) (by simp) rule k⟩

theorem rotatesReg_of_exec {o : Rot} {q : Reg8}
    (h : exec i s = .next ((s.toReg q (shift8 o s.f (s.reg q))).spend rule k)) :
    RotatesReg s i o q (s.cost rule false k) := by
  obtain ⟨out, hrot, hflags⟩ := shift8_spec o s.f (s.reg q)
  exact ⟨_, _, out, h, toReg_spend_frame .., hrot, onlyReg_toReg_spend .., by simpa using hflags,
    credited_spend (by simp) (by simp) rule k⟩

/-! ### A memory byte and F -/

/-- F is written whatever becomes of the store (R275). -/
theorem changesMem_of_exec (hm : Memory.wf s.mem = true) {addr : Word} {p : Byte × Byte}
    {flags : Byte → Byte → Byte → Byte → Prop} (hflags : flags s.f p.2 (s.read8 addr) p.1)
    (h : exec i s = .next ((s.toMem addr p).spend rule k)) :
    ChangesMem s i addr p.1 flags (s.cost rule false k) :=
  ⟨_, h, rfl, storedByte_of_mem hm rfl, hflags, credited_spend rfl rfl rule k⟩

end Effects

/-- The state after a value goes to the register a copy form names, if any (R464, R468). -/
def State.copyTo (s : State) (copy : Option Reg8) (v : Byte) : State :=
  match copy with
  | none => s
  | some q => s.setReg q v

section CopyTo

variable (s : State) (copy : Option Reg8) (v : Byte)

/-- A copy changes the registers A to L at most. -/
theorem copyTo_frame :
    s.copyTo copy v = { s with
      a := (s.copyTo copy v).a, b := (s.copyTo copy v).b, c := (s.copyTo copy v).c, d := (s.copyTo copy v).d
      e := (s.copyTo copy v).e, h := (s.copyTo copy v).h, l := (s.copyTo copy v).l } := by
  obtain _ | q := copy
  · rfl
  · cases q <;> rfl

@[simp] theorem copyTo_f : (s.copyTo copy v).f = s.f := by rw [copyTo_frame]
@[simp] theorem copyTo_r : (s.copyTo copy v).r = s.r := by rw [copyTo_frame]
@[simp] theorem copyTo_mem : (s.copyTo copy v).mem = s.mem := by rw [copyTo_frame]
@[simp] theorem copyTo_cfg : (s.copyTo copy v).cfg = s.cfg := by rw [copyTo_frame]

theorem reg_copyTo (p : Reg8) : (s.copyTo copy v).reg p = if copy = some p then v else s.reg p := by
  obtain _ | q := copy
  · simp [State.copyTo]
  · simp [State.copyTo, reg_setReg, eq_comm]

end CopyTo

theorem rotatesMem_of_exec {s : State} {i : Instr} (hm : Memory.wf s.mem = true) {o : Rot} {addr : Word}
    {copy : Option Reg8} {rule k : Nat}
    (h : let p := shift8 o s.f (s.read8 addr)
      exec i s = .next (((s.toMem addr p).copyTo copy p.1).spend rule k)) :
    RotatesMem s i o addr copy (s.cost rule false k) := by
  obtain ⟨out, hrot, hflags⟩ := shift8_spec o s.f (s.read8 addr)
  refine ⟨_, _, out, h, ?_, hrot, storedByte_of_mem hm (by simp), reg_copyTo _ copy _, by simpa using hflags,
    credited_spend (by simp) (by simp) rule k⟩
  rw [copyTo_frame]
  rfl

/-! ### HL and F -/

theorem hl_toHl_spend (s : State) (p : Word × Byte) (rule k : Nat) : ((s.toHl p).spend rule k).hl = p.1 :=
  mkWord_hiByte_loByte p.1

/-! ## The settled statements of the ALU and flag family -/

/-- Settles O28: parity on every byte, each condition by its own mask. -/
theorem parityAndConditions : Obligations.ParityAndConditions :=
  ⟨parity_eq_xor, condHolds_eq_mask⟩

/-- Settles O35: each form is `Add8` of A and its operand. -/
theorem addWithAndWithoutCarry : Obligations.AddWithAndWithoutCarry := by
  intro s q n d
  and_intros <;> exact adds_of_exec rfl

/-- Settles O36: each form is `Sub8` of A and its operand, kept in A by SUB and SBC and dropped by CP. -/
theorem subtractAndCompare : Obligations.SubtractAndCompare := by
  intro s q n d
  and_intros <;> exact subtracts_of_exec rfl

/-- Settles O37: each form writes its bitwise result and the flags of that result. -/
theorem logic : Obligations.Logic := by
  intro s q n d
  and_intros <;> exact logics_of_exec rfl

/-- Settles O38: `Inc8` and `Dec8` of a register or of a memory byte. -/
theorem incrementDecrement8 : Obligations.IncrementDecrement8 := by
  intro s q d
  have hinc (v : Byte) := (inc8_spec s.f v).2
  have hdec (v : Byte) := (dec8_spec s.f v).2
  exact ⟨changesReg_of_exec (hinc _) rfl, changesReg_of_exec (hdec _) rfl, fun hm =>
    ⟨changesMem_of_exec hm (hinc _) rfl, changesMem_of_exec hm (hdec _) rfl, changesMem_of_exec hm (hinc _) rfl,
      changesMem_of_exec hm (hdec _) rfl, changesMem_of_exec hm (hinc _) rfl, changesMem_of_exec hm (hdec _) rfl⟩⟩

/-- Settles O39: `Daa`, with its correction as a sum. -/
theorem decimalAdjust : Obligations.DecimalAdjust := by
  intro s low corr
  obtain ⟨hres, hflags⟩ := daa8_spec s.f s.a
  rw [daaCorrection_toNat] at hres
  exact ⟨_, rfl, rfl, hres, hflags, credited_spend rfl rfl 278 4⟩

/-- Settles O41: `Add16` into HL, IX or IY. -/
theorem add16Instructions : Obligations.Add16 := by
  intro s p pp
  obtain ⟨hhl, hflags⟩ := add16_spec s.f s.hl (s.pair p)
  obtain ⟨hix, hixFlags⟩ := add16_spec s.f s.ix (s.indexPair .ix pp)
  obtain ⟨hiy, hiyFlags⟩ := add16_spec s.f s.iy (s.indexPair .iy pp)
  refine ⟨⟨_, rfl, rfl, ?_, hflags, credited_spend rfl rfl 282 11⟩,
    ⟨_, rfl, rfl, hix, hixFlags, credited_spend rfl rfl 439 15⟩,
    ⟨_, rfl, rfl, hiy, hiyFlags, credited_spend rfl rfl 439 15⟩⟩
  rwa [hl_toHl_spend]

/-- Settles O42: `Adc16` and `Sbc16` of HL, with the old carry. -/
theorem adcSbc16 : Obligations.AdcSbc16 := by
  intro s p
  obtain ⟨hsum, hsumFlags⟩ := adc16_spec s.f s.hl (s.pair p) s.f[0]
  obtain ⟨hdiff, hdiffFlags⟩ := sbc16_spec s.f s.hl (s.pair p) s.f[0]
  rw [← hl_toHl_spend s (adc16 s.f s.hl (s.pair p) s.f[0]) 383 15] at hsum hsumFlags
  rw [← hl_toHl_spend s (sbc16 s.f s.hl (s.pair p) s.f[0]) 382 15] at hdiff hdiffFlags
  exact ⟨⟨_, rfl, rfl, hsum, hsumFlags, credited_spend rfl rfl 383 15⟩,
    ⟨_, rfl, rfl, hdiff, hdiffFlags, credited_spend rfl rfl 382 15⟩⟩

/-- Settles O43: one bit movement of A each, and C the bit moved out. -/
theorem accumulatorRotates : Obligations.AccumulatorRotates := by
  intro s
  have hflags (out : Bool) := flagsAre_keepSZPV s.f false false out
  exact ⟨⟨_, rfl, rfl, shiftLeftIn_spec .., hflags _, credited_spend rfl rfl 285 4⟩,
    ⟨_, rfl, rfl, shiftLeftIn_spec .., hflags _, credited_spend rfl rfl 286 4⟩,
    ⟨_, rfl, rfl, shiftRightIn_spec .., hflags _, credited_spend rfl rfl 287 4⟩,
    ⟨_, rfl, rfl, shiftRightIn_spec .., hflags _, credited_spend rfl rfl 288 4⟩⟩

/-- Settles O50: each is `Shift` of a register. -/
theorem rotateRegister : Obligations.RotateRegister := by
  intro s q
  and_intros <;> exact rotatesReg_of_exec rfl

/-- Settles O51: each is `Shift` of a memory byte, with the copy its form names. -/
theorem rotateMemory : Obligations.RotateMemory := by
  intro s o d q hm
  and_intros <;> exact rotatesMem_of_exec hm rfl

/-- Settles O52: each is `Bit` of its operand; the register field does not reach the meaning. -/
theorem testBit : Obligations.TestBit := by
  intro s b q d reg
  and_intros <;> exact testsBit_of_exec rfl

end Sys2Proof.Machine

/-! The loads, the stack and the exchanges: one rule for each shape of effect, whose hypothesis is the form of the
meaning, so that an instruction meets it by `rfl`. -/

namespace Sys2Proof.Machine

/-! ## What each family answers -/

section Effects

variable {s : State} {i : Instr} {rule k : Nat}

/-- A register write changes the registers A to L and R at most. -/
theorem setReg_spend_frame (s : State) (q : Reg8) (v : Byte) (rule k : Nat) :
    let t := (s.setReg q v).spend rule k
    t = { s with a := t.a, b := t.b, c := t.c, d := t.d, e := t.e, h := t.h, l := t.l, r := t.r } := by
  cases q <;> rfl

theorem loadsReg_of_exec {q : Reg8} {v : Byte} (h : exec i s = .next ((s.setReg q v).spend rule k)) :
    LoadsReg s i q v (s.cost rule false k) :=
  ⟨_, h, setReg_spend_frame .., onlyReg_setReg q v, credited_spend (by simp) (by simp) rule k⟩

/-- A pair write changes the registers B to L, SP and R at most. -/
theorem setPair_spend_frame (s : State) (p : Pair) (v : Word) (rule k : Nat) :
    let t := (s.setPair p v).spend rule k
    t = { s with b := t.b, c := t.c, d := t.d, e := t.e, h := t.h, l := t.l, sp := t.sp, r := t.r } := by
  cases p <;> rfl

theorem loadsPair_of_exec {p : Pair} {v : Word} (h : exec i s = .next ((s.setPair p v).spend rule k)) :
    LoadsPair s i p v (s.cost rule false k) :=
  ⟨_, h, setPair_spend_frame .., pair_setPair_same s p v, fun _ hq => pair_setPair_ne s v hq,
    credited_spend (by simp) (by simp) rule k⟩

theorem loadsIndex_of_exec {x : Index} {v : Word} (h : exec i s = .next ((s.setIndex x v).spend rule k)) :
    LoadsIndex s i x v (s.cost rule false k) := by
  refine ⟨_, h, ?_, credited_spend (by simp) (by simp) rule k⟩
  cases x <;> rfl

theorem storesByte_of_exec (hm : Memory.wf s.mem = true) {addr : Word} {v : Byte}
    (h : exec i s = .next ((s.write8 addr v).spend rule k)) : StoresByte s i addr v (s.cost rule false k) :=
  ⟨_, h, rfl, storedByte_of_mem hm rfl, credited_spend rfl rfl rule k⟩

/-- A word write changes the memory at most (R73). -/
theorem write16_frame (s : State) (addr v : Word) : s.write16 addr v = { s with mem := (s.write16 addr v).mem } := by
  rfl

theorem storesWord_of_exec (hm : Memory.wf s.mem = true) {addr v : Word}
    (h : exec i s = .next ((s.write16 addr v).spend rule k)) : StoresWord s i addr v (s.cost rule false k) := by
  rw [write16_frame] at h
  exact ⟨_, h, rfl, storedWord_of_mem hm rfl, credited_spend rfl rfl rule k⟩

/-- A push changes the memory and SP at most (R76). -/
theorem push16_frame (s : State) (v : Word) : s.push16 v = { s with mem := (s.push16 v).mem, sp := s.sp - 2 } := by
  rfl

theorem pushes_of_exec (hm : Memory.wf s.mem = true) {v : Word} (h : exec i s = .next ((s.push16 v).spend rule k)) :
    Pushes s i v (s.cost rule false k) := by
  rw [push16_frame] at h
  exact ⟨_, h, rfl, storedWord_of_push hm rfl, credited_spend rfl rfl rule k⟩

end Effects

/-! ## Pops and exchanges -/

section Stack

variable (s : State)

/-- A popped pair changes the registers A to L, F, SP and R at most. -/
theorem pop16_setStackPair_spend_frame (q : StackPair) (v : Word) (rule k : Nat) :
    let t := (s.pop16.setStackPair q v).spend rule k
    t = { s with
      a := t.a, f := t.f, b := t.b, c := t.c, d := t.d, e := t.e, h := t.h, l := t.l, sp := s.sp + 2, r := t.r } := by
  cases q <;> rfl

theorem stackPair_spend (q : StackPair) (rule k : Nat) : (s.spend rule k).stackPair q = s.stackPair q := by
  cases q <;> rfl

theorem stackPair_pop16 (q : StackPair) : s.pop16.stackPair q = s.stackPair q := by
  cases q <;> rfl

/-- The word at SP, low byte first (R77). -/
theorem popped_toNat : s.popped.toNat = 256 * (s.read8 (s.sp + 1)).toNat + (s.read8 s.sp).toNat :=
  read16_toNat s.sp

/-- The index register takes the word at SP (R437). -/
theorem exec_popIx : exec .popIx s = .next (({ s with ix := s.popped, sp := s.sp + 2 } : State).spend 437 14) :=
  rfl

@[inherit_doc exec_popIx]
theorem exec_popIy : exec .popIy s = .next (({ s with iy := s.popped, sp := s.sp + 2 } : State).spend 437 14) :=
  rfl

/-- The writes of EX (SP),rr change the memory at most (R220). -/
theorem exchangeTop_frame (v : Word) : s.exchangeTop v = { s with mem := (s.exchangeTop v).mem } := by
  rfl

/-- Each of DE and HL takes the bytes of the other (R217). -/
theorem exec_exDeHl :
    exec .exDeHl s = .next (({ s with d := s.h, e := s.l, h := s.d, l := s.e } : State).spend 217 4) := by
  have hswap : (s.setDe s.hl).setHl s.de = { s with d := s.h, e := s.l, h := s.d, l := s.e } := by
    simp [State.setDe, State.setHl, State.de, State.hl]
  rw [← hswap]
  rfl

/-- HL takes the bytes at SP, and its own go there (R220). -/
theorem exec_exIndSpHl :
    exec .exIndSpHl s = .next (({ s with
      h := s.read8 (s.sp + 1), l := s.read8 s.sp, mem := (s.exchangeTop s.hl).mem } : State).spend 220 19) := by
  have hpop : ({ s with mem := (s.exchangeTop s.hl).mem } : State).setHl s.popped =
      { s with h := s.read8 (s.sp + 1), l := s.read8 s.sp, mem := (s.exchangeTop s.hl).mem } := by
    simp [State.setHl, State.popped, State.read16]
  rw [← hpop, ← exchangeTop_frame]
  rfl

/-- The index register takes the word at SP, and its own goes there (R438). -/
theorem exec_exIndSpIx :
    exec .exIndSpIx s = .next (({ s with ix := s.popped, mem := (s.exchangeTop s.ix).mem } : State).spend 438 23) := by
  rfl

@[inherit_doc exec_exIndSpIx]
theorem exec_exIndSpIy :
    exec .exIndSpIy s = .next (({ s with iy := s.popped, mem := (s.exchangeTop s.iy).mem } : State).spend 438 23) := by
  rfl

end Stack

/-! ## The settled statements of the load and exchange family -/

/-- Settles O29: each form writes one register. -/
theorem loadRegister : Obligations.LoadRegister := by
  intro s q q' n d nn
  and_intros <;> exact loadsReg_of_exec rfl

/-- Settles O30: each form is one byte write. -/
theorem storeByte : Obligations.StoreByte := by
  intro s q n d nn hm
  and_intros <;> exact storesByte_of_exec hm rfl

/-- Settles O31: each form writes one pair or one index register; HL and SP are pairs. -/
theorem loadPair : Obligations.LoadPair := by
  intro s p nn
  exact ⟨loadsPair_of_exec rfl, loadsPair_of_exec (p := .hl) rfl, loadsPair_of_exec rfl,
    loadsPair_of_exec (p := .sp) rfl, loadsPair_of_exec rfl, loadsPair_of_exec rfl, loadsPair_of_exec (p := .sp) rfl,
    loadsIndex_of_exec rfl, loadsIndex_of_exec rfl, loadsIndex_of_exec rfl, loadsIndex_of_exec rfl,
    loadsPair_of_exec (p := .sp) rfl,
    loadsIndex_of_exec rfl, loadsIndex_of_exec rfl, loadsIndex_of_exec rfl, loadsIndex_of_exec rfl⟩

/-- Settles O32: each form is a word write at its address, or a push. -/
theorem storeWordAndPush : Obligations.StoreWordAndPush := by
  intro s p q nn hm
  exact ⟨storesWord_of_exec hm rfl, storesWord_of_exec hm rfl, storesWord_of_exec hm rfl, storesWord_of_exec hm rfl,
    pushes_of_exec hm rfl, pushes_of_exec hm rfl, pushes_of_exec hm rfl⟩

/-- Settles O33: the register written takes the popped word, and the other pairs do not see the write. -/
theorem popInstructions : Obligations.PopInstructions := by
  intro s
  have hword := popped_toNat s
  refine ⟨fun q => ⟨_, rfl, pop16_setStackPair_spend_frame .., ?_, fun p hp => ?_,
      credited_spend (by simp) (by simp) 216 10⟩,
    ⟨_, exec_popIx s, rfl, hword, credited_spend rfl rfl 437 14⟩,
    ⟨_, exec_popIy s, rfl, hword, credited_spend rfl rfl 437 14⟩⟩
  · rw [stackPair_spend, stackPair_setStackPair_same, hword]
  · rw [stackPair_spend, stackPair_setStackPair_ne _ _ hp, stackPair_pop16]

/-- Settles O34: the registers exchange byte by byte; an exchange with the stack stores the register at SP and takes the
word that was there. -/
theorem exchanges : Obligations.Exchanges := by
  intro s
  have hword := popped_toNat s
  exact ⟨⟨_, exec_exDeHl s, rfl, credited_spend rfl rfl 217 4⟩, ⟨_, rfl, rfl, credited_spend rfl rfl 218 4⟩,
    ⟨_, rfl, rfl, credited_spend rfl rfl 219 4⟩, fun hm =>
    ⟨⟨_, exec_exIndSpHl s, rfl, storedWord_of_exchangeTop hm rfl, credited_spend rfl rfl 220 19⟩,
      ⟨_, exec_exIndSpIx s, rfl, hword, storedWord_of_exchangeTop hm rfl, credited_spend rfl rfl 438 23⟩,
      ⟨_, exec_exIndSpIy s, rfl, hword, storedWord_of_exchangeTop hm rfl, credited_spend rfl rfl 438 23⟩⟩⟩

end Sys2Proof.Machine

/-! The flag instructions CPL, SCF and CCF, and NEG as the subtraction of A from 0. -/

namespace Sys2Proof.Machine

/-! ## The flags of CPL, and `Neg` -/

/-- Flags written with `keep = 0x28 | S | Z | PV | C` (R279). -/
theorem cplFlags_spec (f : Byte) : FlagsAre f (cplFlags f) f[7] f[6] true f[2] true f[0] := by
  simp [cplFlags, FlagsAre, maskXY, maskS, maskZ, maskPV, maskC]

theorem beq_zero_eq_decide (v : Byte) : (v == 0) = decide (v.toNat = 0) := by
  rw [Bool.eq_iff_iff, beq_iff_eq, decide_eq_true_iff, ← BitVec.toNat_inj]
  rfl

section Neg

variable (f a : Byte)

theorem neg8_toNat : ((neg8 f a).1.toNat : Int) = (0 - (a.toNat : Int)) % 256 := by
  simpa [neg8] using (sub8_spec f 0 a false).1

theorem neg8_beq_zero : ((neg8 f a).1 == 0) = (a == 0) := by
  have hr := neg8_toNat f a
  have ha := a.isLt
  rw [beq_zero_eq_decide, beq_zero_eq_decide, decide_eq_decide]
  omega

/-- Only 0x80 has no negative in a signed byte (R386). -/
theorem overflows8_neg : overflows 8 (-a.toInt) = (a == 0x80) := by
  revert a
  decide

/-- `Neg`: the flags of 0 - A, by A alone (R167, R386). -/
theorem neg8_flags :
    FlagsAre f (neg8 f a).2 (neg8 f a).1[7] (a == 0) (decide (a.toNat % 16 ≠ 0)) (a == 0x80) true (a != 0) := by
  have h := (sub8_spec f 0 a false).2
  have hhalf : decide ((0 : Byte).toNat % 16 < a.toNat % 16 + false.toNat) = decide (a.toNat % 16 ≠ 0) :=
    decide_eq_decide.mpr Nat.pos_iff_ne_zero
  have hover : overflows 8 ((0 : Byte).toInt - a.toInt - false.toNat) = (a == 0x80) := by
    simpa using overflows8_neg a
  have hborrow : decide ((0 : Byte).toNat < a.toNat + false.toNat) = (a != 0) := by
    rw [bne, beq_zero_eq_decide, ← decide_not]
    exact decide_eq_decide.mpr Nat.pos_iff_ne_zero
  rw [hhalf, hover, hborrow] at h
  rwa [← neg8_beq_zero f a]

end Neg

/-! ## The settled statement -/

/-- Settles O40: each instruction writes F by its own rule, CPL the complement of A too, and NEG the difference. -/
theorem flagInstructionsAndNeg : Obligations.FlagInstructionsAndNeg := by
  intro s
  exact ⟨⟨_, rfl, rfl, cplFlags_spec s.f, credited_spend rfl rfl 279 4⟩,
    ⟨_, rfl, rfl, flagsAre_keepSZPV .., credited_spend rfl rfl 280 4⟩,
    ⟨_, rfl, rfl, flagsAre_keepSZPV .., credited_spend rfl rfl 281 4⟩,
    ⟨_, rfl, rfl, neg8_toNat s.f s.a, neg8_flags s.f s.a, credited_spend rfl rfl 386 8⟩⟩

end Sys2Proof.Machine

/-! The control and port instructions: one rule for each shape of effect, the step after EI, and the settled statements
of the family. -/

namespace Sys2Proof.Machine

/-! ## Jumps, calls and returns -/

section Effects

variable {s : State} {i : Instr} {rule k : Nat}

theorem jumpsTo_of_exec {target : Word} (h : exec i s = .next ((s.jump target).spend rule k)) :
    JumpsTo s i target (s.cost rule false k) :=
  ⟨_, h, rfl, credited_spend rfl rfl rule k⟩

/-- A transfer not taken leaves PC past the instruction (R303, R307, R309). -/
theorem jumpsTo_pc_of_exec (h : exec i s = .next (s.spendSecond rule k)) : JumpsTo s i s.pc (s.cost rule true k) :=
  ⟨_, h, rfl, credited_spendSecond rfl rfl rule k⟩

/-- A call changes the memory, SP and PC at most (R306). -/
theorem call_frame (s : State) (target : Word) :
    s.call target = { s with mem := (s.push16 s.pc).mem, sp := s.sp - 2, pc := target } := by
  rfl

theorem calls_of_exec (hm : Memory.wf s.mem = true) {target : Word}
    (h : exec i s = .next ((s.call target).spend rule k)) : Calls s i target (s.cost rule false k) := by
  rw [call_frame] at h
  exact ⟨_, h, rfl, storedWord_of_push hm rfl, credited_spend rfl rfl rule k⟩

theorem returns_of_exec {iff1 : Bool} (h : exec i s = .next (({ s.ret with iff1 := iff1 } : State).spend rule k)) :
    Returns s i iff1 (s.cost rule false k) :=
  ⟨_, h, rfl, popped_toNat s, credited_spend rfl rfl rule k⟩

end Effects

section Transfers

variable {s : State}

/-- JP c,nn is a jump to `nn` or to where PC already is, at one cost (R301). -/
theorem exec_jpCNn (s : State) (cc : Cond) (nn : Word) :
    exec (.jpCNn cc nn) s = .next ((s.jump (if condHolds cc s.f then nn else s.pc)).spend 301 10) := by
  have hjump : (if condHolds cc s.f then s.jump nn else s) = s.jump (if condHolds cc s.f then nn else s.pc) := by
    split <;> rfl
  rw [← hjump]
  rfl

/-- A form that is taken or falls through answers by its condition. -/
theorem conditional_of_exec {i : Instr} {rule k : Nat} {c : Bool} {t : State} {P : Prop}
    (htaken : exec i s = .next t → P)
    (h : exec i s = .next (if c then t else s.spendSecond rule k)) :
    if c then P else JumpsTo s i s.pc (s.cost rule true k) := by
  cases c with
  | true => exact htaken h
  | false => exact jumpsTo_pc_of_exec h

theorem relativeTarget_relative (s : State) (e : Byte) : RelativeTarget s e (s.relative e) :=
  add_sext16_toNat s.pc e

theorem restartTarget_toNat (t : Fin 8) : (restartTarget t).toNat = 8 * t.val := by
  rw [restartTarget, BitVec.toNat_ofNat]
  omega

/-! ### DJNZ (R305) -/

theorem exec_djnzE_of_ne (h : s.b ≠ 1) (e : Byte) :
    exec (.djnzE e) s = .next ((({ s with b := s.b - 1 } : State).jump (s.relative e)).wait 13) :=
  congrArg Host.Outcome.next (if_pos (sub_ne_zero.mpr h))

theorem exec_djnzE_of_eq (h : s.b = 1) (e : Byte) :
    exec (.djnzE e) s = .next (({ s with b := s.b - 1 } : State).wait 8) :=
  congrArg Host.Outcome.next (if_neg (not_not.mpr (sub_eq_zero.mpr h)))

theorem sub_one_toNat (v : Byte) : ((v - 1).toNat : Int) = ((v.toNat : Int) - 1) % 256 := by
  have hv := v.isLt
  have hsub : (v - 1).toNat = (255 + v.toNat) % 256 := BitVec.toNat_sub v 1
  omega

end Transfers

/-! ## EI and the step after it -/

section AfterEi

variable {s : State}

theorem exec_ei (s : State) :
    exec .ei s = .next
      (({ s with iff1 := true, iff2 := true, eiPending := s.cfg.eiDelay || s.eiPending } : State).spend 314 4) := by
  have hlatch : (s.cfg.eiDelay || s.eiPending) = if s.cfg.eiDelay then true else s.eiPending := by
    cases s.cfg.eiDelay <;> rfl
  rw [hlatch]
  rfl

/-- An accepted request clears both flip-flops and pushes PC (R503). -/
theorem step_of_acceptsInt (hn : s.sample.nmi = false) (ha : s.acceptsInt = true) :
    ∃ t, step s = .next t ∧ t.iff1 = false ∧ t.iff2 = false ∧ t.sp = s.sp - 2 := by
  refine ⟨_, step_int hn ha, ?_⟩
  rw [State.serviceInt, takeInterrupt_eq]
  exact ⟨rfl, rfl, rfl⟩

/-- Every instruction answers a next state (R511). -/
theorem safe_exec (i : Instr) (s : State) : Safe (exec i s) := by
  obtain ⟨t, h, -⟩ := answers_exec_running s i
  exact ⟨t, h⟩

/-- Under P_EI_DELAY, EI leaves the latch set (R314). -/
theorem eiPending_of_exec_ei {t : State} (hd : s.cfg.eiDelay = true) (h : exec .ei s = .next t) :
    t.eiPending = true := by
  rw [exec_ei] at h
  obtain rfl := Host.Outcome.next.inj h
  simp [hd]

/-- A blocked step of a running core ignores mi: it runs the instruction at PC on the polled state, in which the latch
is clear, and after it only EI can have set the latch again (R500, R513). -/
theorem step_of_blocked (hn : s.sample.nmi = false) (hb : s.blocked = true) (hh : s.halted = false) :
    ∃ t, step s = .next t ∧ exec s.fetched (s.polled.past s.fetched) = .next t ∧
      (s.fetched = .ei → t.eiPending = true) ∧
      (s.fetched ∉ [.ei, .ddOther 0xFB, .fdOther 0xFB] → t.eiPending = false) := by
  have hd : s.cfg.eiDelay = true := (Bool.and_eq_true_iff.mp hb).1
  have ha : s.acceptsInt = false := by simp [State.acceptsInt, hb]
  obtain ⟨t, ht⟩ := safe_exec s.fetched (s.polled.past s.fetched)
  refine ⟨t, (step_running hn ha hh).trans ht, ht, fun hf => ?_, fun hf => ?_⟩
  · rw [hf] at ht
    exact eiPending_of_exec_ei (s := s.polled.past .ei) hd ht
  · exact (flipFlopWriters _ _ _ ht).2 (.inl hf)

end AfterEi

/-! ## Ports -/

section Ports

variable (s : State)

theorem portAnswer_portByte : PortAnswer s s.portByte := by
  cases h : s.portIn with
  | nil => exact .inl h
  | cons v rest => exact .inr (by rw [State.portByte, h]; rfl)

/-- A port read into a register changes the port lists, the registers A to L, F and R at most (R380). -/
theorem ioRead_toReg_spend_frame (port : Word) (q : Reg8) (p : Byte × Byte) (rule k : Nat) :
    let t := ((s.ioRead port).toReg q p).spend rule k
    t = { s with
      a := t.a, b := t.b, c := t.c, d := t.d, e := t.e, h := t.h, l := t.l, f := t.f, r := t.r
      portLog := s.portLog ++ [.read port s.portByte], portIn := s.portIn.tail, draws := t.draws } := by
  cases q <;> rfl

end Ports

/-! ## The settled statements of the control family -/

/-- Settles O13: without the delay the request finds IFF1 on and the step unblocked; with it the step is blocked, and
only EI sets the latch that the poll cleared. -/
theorem eiThenRequest : Obligations.EiThenRequest := by
  intro s
  refine ⟨_, exec_ei s, rfl, credited_spend rfl rfl 314 4, fun hn hm => ⟨fun hd => ?_, fun hd hh => ?_⟩⟩
  · exact step_of_acceptsInt hn (acceptsInt_iff.mpr ⟨hm, rfl, fun hb => Bool.false_ne_true (hd.symm.trans hb.1)⟩)
  · exact step_of_blocked hn (by simp [State.blocked, hd]) hh

/-- Settles O44: each form is a jump, a conditional JR one only when it is taken. -/
theorem jumps : Obligations.Jumps := by
  intro s nn e
  exact ⟨jumpsTo_of_exec rfl, jumpsTo_of_exec rfl, jumpsTo_of_exec rfl, jumpsTo_of_exec rfl,
    ⟨_, relativeTarget_relative s e, jumpsTo_of_exec rfl⟩, fun cc => jumpsTo_of_exec (exec_jpCNn s cc nn),
    fun cc => ⟨_, relativeTarget_relative s e, conditional_of_exec jumpsTo_of_exec rfl⟩⟩

/-- Settles O45, by whether B reaches 0. -/
theorem djnz : Obligations.Djnz := by
  intro s e
  by_cases hb : s.b = 1
  · exact ⟨_, exec_djnzE_of_eq hb e, rfl, sub_one_toNat s.b, fun h => absurd hb h,
      fun _ => ⟨rfl, credited_wait rfl 8⟩⟩
  · exact ⟨_, exec_djnzE_of_ne hb e, rfl, sub_one_toNat s.b,
      fun _ => ⟨relativeTarget_relative s e, credited_wait rfl 13⟩, fun h => absurd h hb⟩

/-- Settles O46: each form taken is a call. -/
theorem callsAndRestarts : Obligations.CallsAndRestarts := by
  intro s nn k hm
  exact ⟨calls_of_exec hm rfl, fun cc => conditional_of_exec (calls_of_exec hm) rfl,
    ⟨_, restartTarget_toNat k, calls_of_exec hm rfl⟩⟩

/-- Settles O47: each form taken is a return; RET and RET c write back the IFF1 they find. -/
theorem returnInstructions : Obligations.ReturnInstructions := by
  intro s
  exact ⟨returns_of_exec rfl, returns_of_exec rfl, returns_of_exec rfl,
    fun cc => conditional_of_exec returns_of_exec rfl⟩

/-- Settles O48: each meaning is one record update and its credit. -/
theorem modeInstructions : Obligations.ModeInstructions := by
  intro s
  exact ⟨⟨_, rfl, rfl, credited_spend rfl rfl 311 4⟩, ⟨_, rfl, rfl, credited_spend rfl rfl 312 4⟩,
    ⟨_, rfl, rfl, credited_spend rfl rfl 313 4⟩, ⟨_, exec_ei s, rfl, credited_spend rfl rfl 314 4⟩,
    ⟨_, rfl, rfl, credited_spend rfl rfl 389 8⟩, ⟨_, rfl, rfl, credited_spend rfl rfl 390 8⟩,
    ⟨_, rfl, rfl, credited_spend rfl rfl 391 8⟩⟩

/-- Settles O49: a read brings the device's answer to the register, a write is noted alone. -/
theorem portInstructions : Obligations.PortInstructions := by
  intro s n q
  refine ⟨⟨_, _, rfl, portAnswer_portByte s, rfl, credited_spend rfl rfl 315 11⟩,
    ⟨_, _, rfl, portAnswer_portByte s, ioRead_toReg_spend_frame .., onlyReg_toReg_spend .., ?_,
      credited_spend (by simp) (by simp) 380 12⟩,
    ⟨_, rfl, rfl, credited_spend rfl rfl 316 11⟩, ⟨_, rfl, rfl, credited_spend rfl rfl 381 12⟩⟩
  simpa using byteFlags_spec s.f s.portByte (parity s.portByte)

end Sys2Proof.Machine

/-! SET and RES: one rule for the forms that store a byte, with or without a register copy. -/

namespace Sys2Proof.Machine

/-- The store (R369, R466) and then the copy (R468); the copy is made whatever becomes of the store. -/
theorem writesBit_of_exec {s : State} {i : Instr} {b : Fin 8} {x : Bool} {v : Byte} {addr : Word} {copy : Option Reg8}
    {rule k : Nat} (hm : Memory.wf s.mem = true) (hv : BitIs (s.read8 addr) v b x)
    (h : exec i s = .next (((s.write8 addr v).copyTo copy v).spend rule k)) :
    WritesBit s i b x addr copy (s.cost rule false k) := by
  refine ⟨_, v, h, ?_, hv, storedByte_of_mem hm (by simp), reg_copyTo _ copy v,
    credited_spend (by simp) (by simp) rule k⟩
  rw [copyTo_frame]
  rfl

/-- Settles O53: a register form is a load of the register with the changed byte, a memory form a store of it. -/
theorem setAndResetBit : Obligations.SetAndResetBit := by
  intro s b q d
  refine ⟨?_, ?_, fun hm => ?_⟩
  · obtain ⟨t, hexec, hframe, hreg, hcredit⟩ : LoadsReg s (.setBR b q) q (setBit (s.reg q) b) (s.cost 368 false 8) :=
      loadsReg_of_exec rfl
    exact ⟨t, _, hexec, hframe, setBit_spec _ b, hreg, hcredit⟩
  · obtain ⟨t, hexec, hframe, hreg, hcredit⟩ : LoadsReg s (.resBR b q) q (resBit (s.reg q) b) (s.cost 370 false 8) :=
      loadsReg_of_exec rfl
    exact ⟨t, _, hexec, hframe, resBit_spec _ b, hreg, hcredit⟩
  · have hset (addr : Word) := setBit_spec (s.read8 addr) b
    have hres (addr : Word) := resBit_spec (s.read8 addr) b
    exact ⟨writesBit_of_exec hm (hset _) rfl, writesBit_of_exec hm (hset _) rfl, writesBit_of_exec hm (hset _) rfl,
      writesBit_of_exec hm (hset _) rfl, writesBit_of_exec hm (hset _) rfl, writesBit_of_exec hm (hres _) rfl,
      writesBit_of_exec hm (hres _) rfl, writesBit_of_exec hm (hres _) rfl, writesBit_of_exec hm (hres _) rfl,
      writesBit_of_exec hm (hres _) rfl⟩

end Sys2Proof.Machine

/-! The ED family: the transfers of I and R, the nibble rotates, and the block instructions, whose forms share one
iteration and differ in how it ends. -/

namespace Sys2Proof.Machine

/-! ## Two digits in a byte -/

/-- Digits joined by a shift and an `or` are the digits of a number (R396, R397). -/
theorem shiftLeft_4_or_toNat (hi lo : Byte) (h : lo.toNat < 16) :
    (hi <<< 4 ||| lo).toNat = 16 * (hi.toNat % 16) + lo.toNat := by
  have hshift : (hi <<< 4).toNat = (hi.toNat % 16) <<< 4 := by
    simp only [BitVec.toNat_shiftLeft, Nat.shiftLeft_eq]
    omega
  rw [BitVec.toNat_or, hshift, ← Nat.shiftLeft_add_eq_or_of_lt h, Nat.shiftLeft_eq, Nat.mul_comm]

theorem shiftRight_4_toNat (v : Byte) : (v >>> 4).toNat = v.toNat / 16 :=
  (BitVec.toNat_ushiftRight ..).trans (Nat.shiftRight_eq_div_pow ..)

theorem and_F0_eq_shifts (v : Byte) : v &&& (0xF0 : Byte) = (v >>> 4) <<< 4 := by
  revert v
  decide

/-- A low digit put below the high digit of another byte. -/
theorem and_F0_or_toNat (v lo : Byte) (h : lo.toNat < 16) :
    (v &&& 0xF0 ||| lo).toNat = 16 * (v.toNat / 16) + lo.toNat := by
  rw [and_F0_eq_shifts, shiftLeft_4_or_toNat _ _ h, shiftRight_4_toNat]
  omega

theorem and_0F_toNat_lt (v : Byte) : (v &&& 0x0F).toNat < 16 := by
  rw [and_0F_toNat]
  exact Nat.mod_lt _ (by decide)

theorem shiftRight_4_toNat_lt (v : Byte) : (v >>> 4).toNat < 16 := by
  rw [shiftRight_4_toNat]
  omega

/-! ## The end of an iteration (R414) -/

/-- What the end of an iteration reads beside its own test: PC, R and the parameters. -/
def SameControl (s u : State) : Prop := u.pc = s.pc ∧ u.r = s.r ∧ u.cfg = s.cfg

/-- An iteration begun in `s` has reached `u` and ends in `t`: only PC and R move from `u`, as `Iterates` says. -/
def EndsIteration (s u t : State) (again : Bool) (k kLast : Nat) : Prop :=
  (∃ pc r, t = { u with pc := pc, r := r }) ∧ Iterates s t again k kLast

section EndOfIteration

variable {s u : State}

/-- A form that does not repeat has one path. -/
theorem endsIteration_spend (h : SameControl s u) (rule cost k : Nat) :
    EndsIteration s u (u.spend rule cost) false k (s.cost rule false cost) := by
  obtain ⟨hpc, hr, hcfg⟩ := h
  exact ⟨⟨_, _, rfl⟩, hpc, credited_spend hr hcfg rule cost⟩

theorem endsIteration_repeatIf (h : SameControl s u) (again : Bool) (rule : Nat) :
    EndsIteration s u (u.repeatIf again rule) again (s.cost rule false 21) (s.cost rule true 16) := by
  obtain ⟨hpc, hr, hcfg⟩ := h
  cases again with
  | true => exact ⟨⟨_, _, rfl⟩, congrArg (· - 2) hpc, credited_spend hr hcfg rule 21⟩
  | false => exact ⟨⟨_, _, rfl⟩, hpc, credited_spendSecond hr hcfg rule 16⟩

end EndOfIteration

/-! ## One iteration of each family -/

section Iterations

variable {s t : State} {i : Instr} {dir : Word} {repeating : Bool} {k kLast : Nat}

/-! ### Block transfers -/

theorem bc_blockLoad (s : State) (dir : Word) : (s.blockLoad dir).bc = s.bc - 1 := mkWord_hiByte_loByte _

theorem sameControl_blockLoad (s : State) (dir : Word) : SameControl s (s.blockLoad dir) := by
  simp [SameControl, State.blockLoad]

/-- A block transfer changes the registers B to L, F and the memory at most (R398). -/
theorem blockLoad_frame (s : State) (dir : Word) :
    let u := s.blockLoad dir
    u = { s with b := u.b, c := u.c, d := u.d, e := u.e, h := u.h, l := u.l, f := u.f, mem := u.mem } := by
  apply State.ext <;> simp [State.blockLoad]

/-- Flags written with `keep = 0x28 | S | Z | C` (R398). -/
theorem flagsAre_blockLoad (s : State) (dir : Word) :
    FlagsAre s.f (s.blockLoad dir).f s.f[7] s.f[6] false ((s.blockLoad dir).bc != 0) false s.f[0] := by
  rw [bc_blockLoad]
  simp [State.blockLoad, blockLoadFlags, FlagsAre, maskXY, maskS, maskZ, maskC]

/-- A block transfer, however its iteration ends (R398-R401). -/
theorem movesBlock_of_exec (hm : Memory.wf s.mem = true) (h : exec i s = .next t)
    (hend : EndsIteration s (s.blockLoad dir) t (repeating && (s.blockLoad dir).bc != 0) k kLast) :
    MovesBlock s i dir repeating k kLast := by
  obtain ⟨⟨pc, r, ht⟩, hiter⟩ := hend
  rw [blockLoad_frame] at ht
  subst ht
  exact ⟨_, h, rfl, storedByte_of_mem hm rfl, mkWord_hiByte_loByte _, mkWord_hiByte_loByte _, bc_blockLoad s dir,
    flagsAre_blockLoad s dir, hiter⟩

/-! ### Block compares -/

theorem bc_blockCompare (s : State) (dir : Word) : (s.blockCompare dir).bc = s.bc - 1 := mkWord_hiByte_loByte _

theorem sameControl_blockCompare (s : State) (dir : Word) : SameControl s (s.blockCompare dir) := by
  simp [SameControl, State.blockCompare]

/-- A block compare changes BC, HL and F at most (R402). -/
theorem blockCompare_frame (s : State) (dir : Word) :
    let u := s.blockCompare dir
    u = { s with b := u.b, c := u.c, h := u.h, l := u.l, f := u.f } := by
  apply State.ext <;> simp [State.blockCompare]

theorem sub_beq_zero (a v : Byte) : (a - v == 0) = (a == v) := by
  rw [Bool.eq_iff_iff, beq_iff_eq, beq_iff_eq, sub_eq_zero]

/-- The flags of a block compare (R402). -/
theorem flagsAre_blockCompare (s : State) (dir : Word) :
    FlagsAre s.f (s.blockCompare dir).f (s.a - s.read8 s.hl)[7] (s.a == s.read8 s.hl)
      (decide (s.a.toNat % 16 < (s.read8 s.hl).toNat % 16)) ((s.blockCompare dir).bc != 0) true s.f[0] := by
  rw [bc_blockCompare, ← sub_beq_zero]
  exact flagsAre_keepC ..

/-- The repeat test of CPIR and CPDR, on the state after the compare (R403). -/
theorem compareAgain_eq (s : State) (dir : Word) :
    s.compareAgain = ((s.blockCompare dir).bc != 0 && s.a != s.read8 s.hl) := by
  rw [bc_blockCompare, State.compareAgain, bne, bne, sub_beq_zero]
  rfl

/-- A block compare, however its iteration ends (R402-R405). -/
theorem comparesBlock_of_exec (h : exec i s = .next t)
    (hend : EndsIteration s (s.blockCompare dir) t (repeating && s.compareAgain) k kLast) :
    ComparesBlock s i dir repeating k kLast := by
  obtain ⟨⟨pc, r, ht⟩, hiter⟩ := hend
  rw [compareAgain_eq s dir, ← Bool.and_assoc] at hiter
  rw [blockCompare_frame] at ht
  subst ht
  exact ⟨_, h, rfl, mkWord_hiByte_loByte _, bc_blockCompare s dir, flagsAre_blockCompare s dir, hiter⟩

/-! ### Block input and output -/

/-- The end of one block I/O changes B, HL, F and the count of draws at most (R416). -/
theorem blockIoEnd_frame (u : State) (dir : Word) :
    let v := u.blockIoEnd dir
    v = { u with b := v.b, h := v.h, l := v.l, f := v.f, draws := v.draws } := by
  apply State.ext <;> simp [State.blockIoEnd]

/-- What block input and output share: the access before leaves the core alone (R415, R416). -/
theorem countsBlockIo_of_endsIteration {mem : List Host.Cell} {log : List PortEvent} {ins : List Byte} {n : Nat}
    (hend : let v := ({ s with mem := mem, portLog := log, portIn := ins, draws := n } : State).blockIoEnd dir
      EndsIteration s v t (repeating && v.repeatIo) k kLast) :
    CountsBlockIo s t dir repeating k kLast := by
  obtain ⟨⟨pc, r, rfl⟩, hiter⟩ := hend
  exact ⟨rfl, mkWord_hiByte_loByte _, ⟨_, _, flagsAre_keepC ..⟩, hiter⟩

theorem blockIn_eq (s : State) (dir : Word) :
    s.blockIn dir = ({ s with
      mem := (s.write8 s.hl s.portByte).mem, portLog := s.portLog ++ [.read s.bc s.portByte], portIn := s.portIn.tail
      draws := (s.ioRead s.bc).draws } : State).blockIoEnd dir := by
  rfl

theorem blockOut_eq (s : State) (dir : Word) :
    s.blockOut dir =
      ({ s with portLog := s.portLog ++ [.write (mkWord (s.b - 1) s.c) (s.read8 s.hl)] } : State).blockIoEnd dir := by
  rfl

theorem sameControl_blockIn (s : State) (dir : Word) : SameControl s (s.blockIn dir) := by
  simp [SameControl, State.blockIn, State.blockIoEnd]

theorem sameControl_blockOut (s : State) (dir : Word) : SameControl s (s.blockOut dir) := by
  simp [SameControl, State.blockOut, State.blockIoEnd]

/-- A block input, however its iteration ends (R406-R409). -/
theorem inputsBlock_of_exec (hm : Memory.wf s.mem = true) (h : exec i s = .next t)
    (hend : EndsIteration s (s.blockIn dir) t (repeating && (s.blockIn dir).repeatIo) k kLast) :
    InputsBlock s i dir repeating k kLast := by
  rw [blockIn_eq] at hend
  have hcounts := countsBlockIo_of_endsIteration hend
  obtain ⟨⟨pc, r, ht⟩, -⟩ := hend
  rw [blockIoEnd_frame] at ht
  subst ht
  exact ⟨_, s.portByte, h, rfl, portAnswer_portByte s, storedByte_of_mem hm rfl, hcounts⟩

/-- A block output, however its iteration ends (R410-R413). -/
theorem outputsBlock_of_exec (h : exec i s = .next t)
    (hend : EndsIteration s (s.blockOut dir) t (repeating && (s.blockOut dir).repeatIo) k kLast) :
    OutputsBlock s i dir repeating k kLast := by
  rw [blockOut_eq] at hend
  have hcounts := countsBlockIo_of_endsIteration hend
  obtain ⟨⟨pc, r, ht⟩, -⟩ := hend
  rw [blockIoEnd_frame] at ht
  subst ht
  exact ⟨_, h, rfl, hcounts⟩

end Iterations

/-! ## The settled statements of the ED family -/

/-- Settles O54: each copies one byte; the credit of LD R,A comes on top of the R it writes. -/
theorem specialTransfers : Obligations.SpecialTransfers := by
  intro s
  obtain ⟨hhigh, hlow⟩ := credited_spend (s := { s with r := s.a }) (t := { s with r := s.a }) rfl rfl 393 9
  exact ⟨⟨_, rfl, rfl, credited_spend rfl rfl 392 9⟩, ⟨_, rfl, rfl, hhigh, hlow⟩,
    ⟨_, rfl, rfl, byteFlags_spec s.f s.i s.iff2, credited_spend rfl rfl 394 9⟩,
    ⟨_, rfl, rfl, byteFlags_spec s.f s.r s.iff2, credited_spend rfl rfl 395 9⟩⟩

/-- Settles O55: the digits are joined again in their new order, with the flags of the new A. -/
theorem nibbleRotates : Obligations.NibbleRotates := by
  intro s hm
  have hhigh := shiftRight_4_toNat (s.read8 s.hl)
  have hhighLt := shiftRight_4_toNat_lt (s.read8 s.hl)
  refine ⟨⟨_, _, rfl, rfl, ?_, storedByte_of_mem hm rfl, ?_, byteFlags_spec .., credited_spend rfl rfl 396 18⟩,
    ⟨_, _, rfl, rfl, ?_, storedByte_of_mem hm rfl, ?_, byteFlags_spec .., credited_spend rfl rfl 397 18⟩⟩
  · rw [shiftLeft_4_or_toNat _ _ hhighLt, hhigh]
  · exact (and_F0_or_toNat _ _ (and_0F_toNat_lt _)).trans (by rw [and_0F_toNat])
  · rw [shiftLeft_4_or_toNat _ _ (and_0F_toNat_lt _), and_0F_toNat]
  · exact (and_F0_or_toNat _ _ hhighLt).trans (by rw [hhigh])

/-- Settles O56: one iteration, ended by a credit or by the repeat test. -/
theorem blockTransfers : Obligations.BlockTransfers := by
  intro s hm
  have hspend (dir : Word) := endsIteration_spend (sameControl_blockLoad s dir)
  have hrepeat (dir : Word) := endsIteration_repeatIf (sameControl_blockLoad s dir)
  exact ⟨movesBlock_of_exec hm rfl (hspend ..), movesBlock_of_exec hm rfl (hrepeat ..),
    movesBlock_of_exec hm rfl (hspend ..), movesBlock_of_exec hm rfl (hrepeat ..)⟩

/-- Settles O57: as for the transfers, with the compare's own repeat test. -/
theorem blockCompares : Obligations.BlockCompares := by
  intro s
  have hspend (dir : Word) := endsIteration_spend (sameControl_blockCompare s dir)
  have hrepeat (dir : Word) := endsIteration_repeatIf (sameControl_blockCompare s dir)
  exact ⟨comparesBlock_of_exec rfl (hspend ..), comparesBlock_of_exec rfl (hrepeat ..),
    comparesBlock_of_exec rfl (hspend ..), comparesBlock_of_exec rfl (hrepeat ..)⟩

/-- Settles O58: inputs and outputs count alike and differ in the access before it. -/
theorem blockInputOutput : Obligations.BlockInputOutput := by
  intro s hm
  have hinSpend (dir : Word) := endsIteration_spend (sameControl_blockIn s dir)
  have hinRepeat (dir : Word) := endsIteration_repeatIf (sameControl_blockIn s dir)
  have houtSpend (dir : Word) := endsIteration_spend (sameControl_blockOut s dir)
  have houtRepeat (dir : Word) := endsIteration_repeatIf (sameControl_blockOut s dir)
  exact ⟨inputsBlock_of_exec hm rfl (hinSpend ..), inputsBlock_of_exec hm rfl (hinRepeat ..),
    inputsBlock_of_exec hm rfl (hinSpend ..), inputsBlock_of_exec hm rfl (hinRepeat ..),
    outputsBlock_of_exec rfl (houtSpend ..), outputsBlock_of_exec rfl (houtRepeat ..),
    outputsBlock_of_exec rfl (houtSpend ..), outputsBlock_of_exec rfl (houtRepeat ..)⟩

end Sys2Proof.Machine

/-! DD and FD before a byte of OTHER_SET when the parameter ignores the prefix. -/

namespace Sys2Proof.Machine

/-- A byte of OTHER_SET and the operand bytes at PC are a root instruction that may run after DD or FD (R117, R470). -/
theorem rootAfterPrefix_other (s : State) {op : Byte} (h : isOther op = true) :
    ∃ i, s.rootAfterPrefix op = some i ∧ rootOther i = true :=
  (Option.any_eq_true ..).mp (decodeRoot_other (s.read8 s.pc) (s.read8 (s.pc + 1)) op h)

/-- An ignored DD or FD: the root instruction runs with PC past its operand bytes, for 4 more T-states (R470). -/
theorem execOther_of_root {s : State} {op : Byte} {i : Instr} (hc : s.cfg.ddfdOther = .root)
    (hi : s.rootAfterPrefix op = some i) (hr : rootOther i = true) :
    execOther op s = withPrefixCost (exec i (s.jump (s.pc + BitVec.ofNat 16 (i.length - 1)))) := by
  simp only [execOther, hc, hi, execRootOther_eq, hr, if_true]
  rfl

/-- Settles O60: the root instruction answers, and the prefix only adds its own credit to that answer. -/
theorem ignoredIndexPrefix : Obligations.IgnoredIndexPrefix := by
  intro s op ho hc
  obtain ⟨i, hi, hr⟩ := rootAfterPrefix_other s ho
  obtain ⟨t, ht, -⟩ := answers_exec (s.jump (s.pc + BitVec.ofNat 16 (i.length - 1))) (isOtherForm_of_rootOther hr)
  have hu : execOther op s = .next (t.wait 4) := by
    rw [execOther_of_root hc hi hr, ht]
    rfl
  exact ⟨i, t, t.wait 4, hi, ht, hu, hu, rfl, credited_wait rfl 4⟩

end Sys2Proof.Machine

/-! The step around the instructions: the two services, requests that are not accepted, the halted core, and that nothing
stops. -/

namespace Sys2Proof.Machine

variable {s t : State}

/-! ## The two services -/

/-- Taking an interrupt right after the poll: everything it does but for memory and R, said of the state before the poll
(R500, R502, R503). -/
theorem polled_takeInterrupt_eq (s : State) (vector : State → Word) (iff2 : Bool) :
    s.polled.takeInterrupt vector iff2 =
      { s with
        pc := vector (s.polled.push16 s.pc), sp := s.sp - 2, iff1 := false, iff2 := iff2, halted := false
        mem := (s.polled.push16 s.pc).mem, r := (s.polled.wait 17).r
        lines := s.lines.tail, draws := if s.lines.isEmpty then s.draws + 1 else s.draws
        eiPending := false } :=
  takeInterrupt_eq ..

/-- A step that takes an interrupt stores PC on the stack and goes to the vector computed after the push; besides them it
changes only the flip-flops, HALT and R, and what the poll changes (R502, R503, R506, R507). -/
theorem service_of_step {vector : State → Word} {iff2 : Bool} (hm : Memory.wf s.mem = true)
    (h : step s = .next (s.polled.takeInterrupt vector iff2)) :
    ∃ t, step s = .next t ∧
      t = { s with
        pc := vector (s.polled.push16 s.pc), sp := s.sp - 2, iff1 := false, iff2 := iff2, halted := false
        mem := t.mem, r := t.r
        lines := s.lines.tail, draws := if s.lines.isEmpty then s.draws + 1 else s.draws
        eiPending := false } ∧
      t.mem = (s.polled.push16 s.pc).mem ∧ StoredWord s t (s.sp - 2) s.pc ∧ Credited s t 17 := by
  have hstored := storedWord_takeInterrupt (s := s.polled) hm vector iff2
  have hcredit := credited_takeInterrupt (s := s.polled) vector iff2
  rw [polled_takeInterrupt_eq] at h hstored hcredit
  exact ⟨_, h, rfl, rfl, hstored, hcredit⟩

/-- Settles O9: the service has a fixed vector and leaves IFF2 as it was. -/
theorem nmiService : Obligations.NmiService := by
  intro s hm hn
  obtain ⟨t, hstep, hframe, -, hstored, hcredit⟩ := service_of_step hm (step_nmi hn)
  exact ⟨t, hstep, hframe, hstored, hcredit⟩

/-- The vector of a maskable interrupt in each mode; in mode 2 its two bytes stand in the table (R504, R505, R506). -/
theorem intVector_spec (s : State) (data : Byte) :
    (s.im = .im0 → (s.intVector data).toNat = (data &&& 0x38).toNat) ∧
    (s.im = .im1 → s.intVector data = 0x0038) ∧
    (s.im = .im2 → (s.intVector data).toNat =
      256 * (s.read8 (mkWord s.i data + 1)).toNat + (s.read8 (mkWord s.i data)).toNat) := by
  refine ⟨fun h => ?_, fun h => ?_, fun h => ?_⟩ <;> rw [State.intVector, h]
  · exact BitVec.toNat_setWidth_of_le (by decide)
  · exact read16_toNat ..

/-- Settles O10: the service of the polled state; its vector is taken in the state after the push, whose memory the
service leaves. -/
theorem maskableService : Obligations.MaskableService := by
  intro s hm hn hmi hiff hb
  have ha : s.acceptsInt = true := acceptsInt_iff.mpr ⟨hmi, hiff, hb⟩
  obtain ⟨t, hstep, hframe, hmem, hstored, hcredit⟩ := service_of_step hm (step_int hn ha)
  have hpc : t.pc = (s.polled.push16 s.pc).intVector s.sample.data := congrArg (·.pc) hframe
  have hvector := intVector_spec (s.polled.push16 s.pc) s.sample.data
  simp only [push16_im, push16_i, ← hpc, ← read8_congr hmem] at hvector
  rw [← hpc] at hframe
  exact ⟨t, hstep, hframe, hstored, hcredit, hvector⟩

/-! ## Requests that are not accepted -/

/-- Where no maskable request is accepted, a step depends on the state after the poll and on nmi alone (R500). -/
theorem step_congr (hp : t.polled = s.polled) (hn : t.sample.nmi = s.sample.nmi)
    (ha : s.sample.nmi = true ∨ s.acceptsInt = false ∧ t.acceptsInt = false) : step t = step s := by
  have hh : t.halted = s.halted := congrArg (·.halted) hp
  cases hns : s.sample.nmi with
  | true => rw [step_nmi hns, step_nmi (hn.trans hns), hp]
  | false =>
    obtain ⟨has, hat⟩ := ha.resolve_left (by simp [hns])
    cases hhs : s.halted with
    | true => rw [step_halted hns has hhs, step_halted (hn.trans hns) hat (hh.trans hhs), hp]
    | false => rw [step_running hns has hhs, step_running (hn.trans hns) hat (hh.trans hhs), hp]

theorem acceptsInt_of_mi (h : s.sample.mi = false) : s.acceptsInt = false := by
  simp [State.acceptsInt, h]

theorem acceptsInt_of_iff1 (h : s.iff1 = false) : s.acceptsInt = false := by
  simp [State.acceptsInt, h]

theorem acceptsInt_of_blocked (h : s.blocked = true) : s.acceptsInt = false := by
  simp [State.acceptsInt, h]

/-- A request that the step would not accept might as well not be there: the poll uses up either sample alike. -/
theorem step_eq_of_mi_low {n : Lines} {rest : List Lines} (hl : s.lines = n :: rest)
    (ha : n.nmi = true ∨ s.acceptsInt = false) : step s = step { s with lines := { n with mi := false } :: rest } := by
  rw [← sample_of_lines hl] at ha ⊢
  refine step_congr ?_ rfl (ha.imp id fun h => ⟨acceptsInt_of_mi rfl, h⟩)
  simp [State.polled, hl]

/-- Settles O11: unless an NMI comes first, the request finds IFF1 off or the step blocked. -/
theorem maskedRequestIgnored : Obligations.MaskedRequestIgnored := by
  intro s n rest hl h
  refine step_eq_of_mi_low hl ?_
  obtain hiff | ⟨hd, he⟩ | hn := h
  · exact .inr (acceptsInt_of_iff1 hiff)
  · exact .inr (acceptsInt_of_blocked (Bool.and_eq_true_iff.mpr ⟨hd, he⟩))
  · exact .inl hn

/-! ## The halted core -/

/-- A run goes on from where its first step leads. -/
theorem run_succ_of_step {M : Host.Core} {x y : M.State} (h : M.step x = .next y) (n : Nat) :
    M.run (n + 1) x = M.run n y := by
  simp only [Host.Core.run, h]

/-- A halted step without an interrupt is the poll alone (R508). -/
theorem step_halted_quiet {x : Lines} {rest : List Lines} (hh : s.halted = true) (hl : s.lines = x :: rest)
    (hx : x.nmi = false ∧ (x.mi = false ∨ s.iff1 = false)) : step s = .next s.polled := by
  obtain ⟨hn, hm⟩ := hx
  rw [← sample_of_lines hl] at hn hm
  exact step_halted hn (hm.elim acceptsInt_of_mi acceptsInt_of_iff1) hh

/-- Settles O12, by induction on the number of steps: each of them is a poll. -/
theorem haltedStaysHalted : Obligations.HaltedStaysHalted := by
  intro s n
  induction n generalizing s with
  | zero => intros; rfl
  | succ n ih =>
    intro hh hlen hq
    cases hl : s.lines with
    | nil => simp [hl] at hlen
    | cons x rest =>
      rw [hl] at hlen hq
      obtain ⟨hx, hrest⟩ := List.forall_mem_cons.mp hq
      have htail : s.polled.lines = rest := congrArg List.tail hl
      rw [run_succ_of_step (M := core) (step_halted_quiet hh hl hx),
        ih s.polled hh (htail ▸ Nat.le_of_succ_le_succ hlen) (htail ▸ hrest)]
      simp [State.polled, hl]

/-! ## Nothing stops -/

/-- Every step answers a next state (R511): each of its four cases does. -/
theorem safe_step (s : State) : Safe (step s) := by
  cases hn : s.sample.nmi with
  | true => exact ⟨_, step_nmi hn⟩
  | false =>
    cases ha : s.acceptsInt with
    | true => exact ⟨_, step_int hn ha⟩
    | false =>
      cases hh : s.halted with
      | true => exact ⟨_, step_halted hn ha hh⟩
      | false => exact step_running hn ha hh ▸ safe_exec ..

/-- Settles O16: every instruction answers a next state, and so every step does. -/
theorem nothingStops : Obligations.NothingStops :=
  ⟨safe_exec, safe_step⟩

/-! ## Unrecognised sequences -/

/-- DD or FD before a byte of OTHER_SET halts the core where the parameter leaves it unrecognised (R470). -/
theorem execOther_of_unrecognised (hc : s.cfg.ddfdOther = .unrecognised) (op : Byte) :
    execOther op s = .next s.unrecognised := by
  simp only [execOther, hc]

/-- Settles O59: each of them is the unrecognised outcome. -/
theorem unrecognisedHalts : Obligations.UnrecognisedHalts := by
  intro s op
  exact ⟨rfl, rfl, rfl, fun hc => ⟨execOther_of_unrecognised hc op, execOther_of_unrecognised hc op⟩⟩

end Sys2Proof.Machine

/-! Reset: what the core's own state is afterwards, and what a host reset keeps. -/

namespace Sys2Proof.Machine

/-! ## The host reset (R552, R553) -/

@[simp] theorem hostReset_im (s : State) : s.hostReset.im = .im0 := rfl
@[simp] theorem hostReset_halted (s : State) : s.hostReset.halted = false := rfl
@[simp] theorem hostReset_eiPending (s : State) : s.hostReset.eiPending = false := rfl
@[simp] theorem hostReset_mem (s : State) : s.hostReset.mem = s.mem := rfl
@[simp] theorem hostReset_portLog (s : State) : s.hostReset.portLog = s.portLog := rfl

/-- The 28 bytes are of the core's own state alone, which a host reset takes whole from the reset state (R55). -/
theorem getState_hostReset (s : State) : s.hostReset.getState = State.reset.getState := rfl

/-- A host reset keeps memory, so every byte reads as before (R552). -/
theorem read8_hostReset (s : State) (a : Word) : s.hostReset.read8 a = s.read8 a := read8_congr (hostReset_mem s) a

/-! ## The settled statements of the reset family -/

/-- Settles O1: every field has the value R550 gives it, and each of the sixteen other byte registers is zero. -/
theorem resetState : Obligations.ResetState := by
  have hzero : ∀ v ∈ List.replicate 16 (0x00 : Byte), v = 0x00 := fun _ => List.eq_of_mem_replicate
  exact ⟨rfl, rfl, rfl, rfl, rfl, rfl, rfl, rfl, rfl, hzero, rfl, rfl⟩

/-- Settles O2: the core's own state is that of reset, and memory and the port events are those from before. -/
theorem hostReset : Obligations.HostReset := fun s =>
  ⟨getState_hostReset s, hostReset_im s, hostReset_halted s, hostReset_eiPending s, read8_hostReset s,
    hostReset_portLog s⟩

/-- Settles O15: the empty memory is canonical, and IFF1 and the EI latch are off, so nothing is asked of them. -/
theorem invariantAtReset : Obligations.InvariantAtReset where
  mem := Memory.wf_nil
  iff h := absurd h Bool.false_ne_true
  latch h := absurd h Bool.false_ne_true

end Sys2Proof.Machine
